-- ==== Sys2Proof/Word.lean ====
section
/-! DEFINITION. The word widths of the block: bytes, 16-bit report fields, the event word and time stamps
(00_scope.md R6, R12; 30_encoding.md R80). -/

namespace Sys2Proof

/-- One byte; bit 0 is the least significant (R6). -/
abbrev Byte := BitVec 8

/-- A 16-bit field of a report (R54). -/
abbrev Half := BitVec 16

/-- A 32-bit payload word of a frame (R55). -/
abbrev Word := BitVec 32

/-- The 64-bit event word `ev_word` (R80). -/
abbrev EventWord := BitVec 64

/-- A time stamp of `TS_W = 32` bits; its subtraction is the modular `-_T` of R12. -/
abbrev Time := BitVec 32

end Sys2Proof
end

