-- ==== Sys2Proof/Config.lean ====
section
/-! DEFINITION. What an implementation fixes: the constants and the OPEN parameters of 00_scope.md R5. -/

namespace Sys2Proof

/-- `MAGIC`: the constant of every frame (R5). -/
def Config.magic : Byte := 0xAA

/-- `FRAME_MAX`: the bytes of the frame buffer (R5, R52). -/
abbrev Config.frameMax : Nat := 20

/-- The OPEN parameters that a step reads (R5). DESIGN CHOICE (log entry 5): they stand in the state as plain data
that no step changes, so a statement about every state holds for every value of them. -/
structure Params where
  /-- `LIVENESS_INTERVAL`, in time units. -/
  livenessInterval : Nat
  /-- `WRITE_TIMEOUT`, in time units; only passed on with a write request. -/
  writeTimeout : Nat
  deriving DecidableEq, Repr

/-- The defaults R5 gives: `LIVENESS_INTERVAL` 2 and `WRITE_TIMEOUT` 1000. -/
def Params.default : Params := { livenessInterval := 2, writeTimeout := 1000 }

/-- `VENDOR_ID` (R5): an argument of the Transport's open, with no value in the spec; the block never reads it
(log entry 6). -/
opaque Config.vendorId : Nat

/-- `PRODUCT_ID` (R5): as `Config.vendorId` (log entry 6). -/
opaque Config.productId : Nat

/-- `IFACE_SELECTORS` (R5): as `Config.vendorId` (log entry 6). -/
opaque Config.ifaceSelectors : List Nat

/-- `TIME_UNIT` (R5): no rule depends on it (log entry 6). -/
opaque Config.timeUnit : Nat

end Sys2Proof
end

