-- ==== Sys2Proof/Machine/Values.lean ====
section
/-! DEFINITION. The value types that pass through the block: open results, error codes, command intents, sensor
snapshots and wire commands (10_state.md R30 to R33; 30_encoding.md R89, R90). -/

namespace Sys2Proof.Machine

/-- The open results of R89 that are not reserved. -/
inductive OpenResult where
  | ok
  | deviceNotFound
  | deviceBusy
  | deviceMismatch
  deriving DecidableEq, Repr

/-- The error codes of R90; codes 6 and 7 are never produced. -/
inductive ErrorCode where
  | none
  | deviceNotFound
  | deviceBusy
  | deviceMismatch
  | writeError
  | sessionClosed
  deriving DecidableEq, Repr

/-- A command intent: six variants, each with only its own parameters (R32). -/
inductive CommandIntent where
  | enableTracking
  | headsetPower (on : Bool)
  | vrMode (enter : Bool)
  | genericOnOff (id : Byte) (on : Bool)
  | boxPowerOff
  | cinematicConfig (screenDistance screenSize brightness micVolume : Byte) (flag : Bool)
  deriving DecidableEq, Repr

/-- The three named buttons (R72). -/
inductive Button where
  | volumeUp
  | volumeDown
  | mute
  deriving DecidableEq, Repr

/-- An IMU sample: seven 16-bit fields, `sequence` unsigned and the others two's complement (R31). -/
structure ImuSample where
  sequence : Half
  gyroYaw : Half
  gyroPitch : Half
  gyroRoll : Half
  motionX : Half
  motionY : Half
  motionZ : Half
  deriving DecidableEq, Repr

/-- The eight debug bytes, index 0..7 named A..H (R30, R114). -/
structure DebugBytes where
  a : Byte
  b : Byte
  c : Byte
  d : Byte
  e : Byte
  f : Byte
  g : Byte
  h : Byte
  deriving DecidableEq, Repr

/-- A sensor snapshot (R30). `orientationValid` is the `orientation` slot as the snapshot bus carries it:
a valid bit and no quaternion bits (R119; DEDUCED, log entry 14). -/
structure Snapshot where
  buttons : Byte
  volume : Byte
  worn : Bool
  displayActive : Bool
  muted : Bool
  earphonesConnected : Bool
  imuSampleA : ImuSample
  imuSampleB : ImuSample
  calibrationStatus : Byte
  ready : Byte
  debugBytes : DebugBytes
  voltageValue : Byte
  voltageReference : Byte
  irSensor : Half
  packetSequence : Byte
  orientationValid : Bool
  deriving DecidableEq, Repr

/-- Every field of an IMU sample 0 (R101). -/
def ImuSample.zero : ImuSample :=
  { sequence := 0, gyroYaw := 0, gyroPitch := 0, gyroRoll := 0, motionX := 0, motionY := 0, motionZ := 0 }

/-- `ZERO_SNAPSHOT`: every field at its type's zero value, `displayActive` included, and no orientation (R101). -/
def Snapshot.zero : Snapshot :=
  { buttons := 0, volume := 0, worn := false, displayActive := false, muted := false, earphonesConnected := false
    imuSampleA := ImuSample.zero, imuSampleB := ImuSample.zero
    calibrationStatus := 0, ready := 0
    debugBytes := { a := 0, b := 0, c := 0, d := 0, e := 0, f := 0, g := 0, h := 0 }
    voltageValue := 0, voltageReference := 0, irSensor := 0, packetSequence := 0, orientationValid := false }

/-- A wire command (R33). -/
structure WireCommand where
  reportId : Byte
  status : Byte
  magic : Byte
  length : Byte
  payload : List Byte
  deriving DecidableEq, Repr

/-- A payload that fits behind the header in the 20-byte frame buffer: at most 16 bytes (R5, R140). -/
abbrev Payload := { bytes : List Byte // bytes.length ≤ 16 }

end Sys2Proof.Machine
end

