-- ==== Sys2Proof/Syntax.lean ====
section
/-! DEFINITION. The events as syntax: one constructor per row of spec/opcode_table.json, each with the fields the
row names (30_encoding.md R80 to R89). -/

namespace Sys2Proof

/-- One event of SFSM, decoded from its event word. -/
inductive Instr where
  /-- NOP, R171. -/
  | nop
  /-- OPEN with an open result that is not reserved, R172: bit 3 `use_alt`, bits 5:4 `RES`. -/
  | openSession (useAlt : Bool) (res : Machine.OpenResult)
  /-- OPEN.reserved_result, R172: `RES` = 4 to 7, kept as read (DEDUCED, log entry 15). -/
  | openReserved (res : BitVec 3)
  /-- PACKET, R173: bit 3 `full`. -/
  | packet (full : Bool)
  /-- SEND with `K` = 0, R142. -/
  | sendEnableTracking
  /-- SEND with `K` = 1, R143: bit 7 `on`. -/
  | sendHeadsetPower (on : Bool)
  /-- SEND with `K` = 2, R144: bit 7 `enter`. -/
  | sendVRMode (enter : Bool)
  /-- SEND with `K` = 3, R145: bits 15:8 `id`, bit 7 `on`. -/
  | sendGenericOnOff (id : Byte) (on : Bool)
  /-- SEND with `K` = 4, R146. -/
  | sendBoxPowerOff
  /-- SEND with `K` = 5, R147. -/
  | sendCinematicConfig (screenDistance screenSize brightness micVolume : Byte) (flag : Bool)
  /-- SEND.reserved_kind, R148: `K` = 6 or 7, kept as read. -/
  | sendReservedKind (k : BitVec 3)
  /-- WRITE_DONE, R175: bit 3 `write_ok`. -/
  | writeDone (writeOk : Bool)
  /-- TICK, R176: bit 3 `is_alive`. -/
  | tick (isAlive : Bool)
  /-- CLOSE, R177. -/
  | close
  /-- RESERVED_EVENT, `EV` = 7, R180. -/
  | reservedEvent
  deriving DecidableEq, Repr

end Sys2Proof
end

