-- ==== Sys2Proof/WellFormed.lean ====
section
/-! DEFINITION. Which events an event word can hold: the reserved constructors carry only reserved codes
(30_encoding.md R89, R85, R92). -/

namespace Sys2Proof

/-- A reserved open result is 4 to 7 (R89) and a reserved kind is 6 or 7 (R85); every other event is well formed. -/
def Instr.wf : Instr → Bool
  | .openReserved res => decide (4 ≤ res.toNat)
  | .sendReservedKind k => decide (6 ≤ k.toNat)
  | .nop => true
  | .openSession _ _ => true
  | .packet _ => true
  | .sendEnableTracking => true
  | .sendHeadsetPower _ => true
  | .sendVRMode _ => true
  | .sendGenericOnOff _ _ => true
  | .sendBoxPowerOff => true
  | .sendCinematicConfig _ _ _ _ _ => true
  | .writeDone _ => true
  | .tick _ => true
  | .close => true
  | .reservedEvent => true

end Sys2Proof
end

