-- ==== Sys2Proof/Decode.lean ====
section
/-! DEFINITION. The event word's fields, the decoder, the encoder and the opcode table's rows
(30_encoding.md R80 to R94; spec/opcode_table.json). -/

namespace Sys2Proof

/-- The fields of an event word (R80); bits 63:49 belong to none. -/
structure Fields where
  ev : BitVec 3
  b : Bool
  k : BitVec 3
  on : Bool
  gid : Byte
  dist : Byte
  size : Byte
  bright : Byte
  mic : Byte
  flag : Bool
  deriving DecidableEq, Repr

/-- Every field 0. -/
def Fields.zero : Fields :=
  { ev := 0, b := false, k := 0, on := false, gid := 0, dist := 0, size := 0, bright := 0, mic := 0, flag := false }

/-- The fields of a word, at the bits R80 gives. -/
def fieldsOf (w : EventWord) : Fields :=
  { ev := w.extractLsb' 0 3
    b := w.getLsbD 3
    k := w.extractLsb' 4 3
    on := w.getLsbD 7
    gid := w.extractLsb' 8 8
    dist := w.extractLsb' 16 8
    size := w.extractLsb' 24 8
    bright := w.extractLsb' 32 8
    mic := w.extractLsb' 40 8
    flag := w.getLsbD 48 }

/-- The word that holds the fields at the bits R80 gives, its unused bits 0. -/
def wordOf (f : Fields) : EventWord :=
  (0#15 ++ BitVec.ofBool f.flag ++ f.mic ++ f.bright ++ f.size ++ f.dist ++ f.gid ++ BitVec.ofBool f.on ++ f.k
    ++ BitVec.ofBool f.b ++ f.ev : BitVec (15 + 1 + 8 + 8 + 8 + 8 + 8 + 1 + 3 + 1 + 3))

/-- OPEN: bit 6 tells the reserved results from the others (R82, R89). -/
def decodeOpen (f : Fields) : Instr :=
  match f.k with
  | 0#3 => .openSession f.b .ok
  | 1#3 => .openSession f.b .deviceNotFound
  | 2#3 => .openSession f.b .deviceBusy
  | 3#3 => .openSession f.b .deviceMismatch
  | res => .openReserved res

/-- SEND: `K` selects the kind and the fields it reads (R84, R85). -/
def decodeSend (f : Fields) : Instr :=
  match f.k with
  | 0#3 => .sendEnableTracking
  | 1#3 => .sendHeadsetPower f.on
  | 2#3 => .sendVRMode f.on
  | 3#3 => .sendGenericOnOff f.gid f.on
  | 4#3 => .sendBoxPowerOff
  | 5#3 => .sendCinematicConfig f.dist f.size f.bright f.mic f.flag
  | k => .sendReservedKind k

/-- The event of the fields: `EV` alone selects it (R81, R94). -/
def decodeFields (f : Fields) : Instr :=
  match f.ev with
  | 0#3 => .nop
  | 1#3 => decodeOpen f
  | 2#3 => .packet f.b
  | 3#3 => decodeSend f
  | 4#3 => .writeDone f.b
  | 5#3 => .tick f.b
  | 6#3 => .close
  | _ => .reservedEvent

/-- The decoder. It is total: every 64-bit word selects exactly one event, the reserved encodings their own
constructors (R92, R94), so nothing is rejected. -/
def decode (w : EventWord) : Instr :=
  decodeFields (fieldsOf w)

/-- The code of an open result (R89). -/
def openResultCode : Machine.OpenResult → BitVec 3
  | .ok => 0
  | .deviceNotFound => 1
  | .deviceBusy => 2
  | .deviceMismatch => 3

/-- The fields an event is written with; a field it does not use is 0 (R82 to R88, R91). -/
def encodeFields : Instr → Fields
  | .nop => { Fields.zero with ev := 0 }
  | .openSession useAlt res => { Fields.zero with ev := 1, b := useAlt, k := openResultCode res }
  | .openReserved res => { Fields.zero with ev := 1, k := res }
  | .packet full => { Fields.zero with ev := 2, b := full }
  | .sendEnableTracking => { Fields.zero with ev := 3, k := 0 }
  | .sendHeadsetPower on => { Fields.zero with ev := 3, k := 1, on := on }
  | .sendVRMode enter => { Fields.zero with ev := 3, k := 2, on := enter }
  | .sendGenericOnOff id on => { Fields.zero with ev := 3, k := 3, gid := id, on := on }
  | .sendBoxPowerOff => { Fields.zero with ev := 3, k := 4 }
  | .sendCinematicConfig dist size bright mic flag =>
      { Fields.zero with ev := 3, k := 5, dist := dist, size := size, bright := bright, mic := mic, flag := flag }
  | .sendReservedKind k => { Fields.zero with ev := 3, k := k }
  | .writeDone ok => { Fields.zero with ev := 4, b := ok }
  | .tick isAlive => { Fields.zero with ev := 5, b := isAlive }
  | .close => { Fields.zero with ev := 6 }
  | .reservedEvent => { Fields.zero with ev := 7 }

/-- The encoder: the event word of an event, its unused bits 0 (R91). -/
def encode (i : Instr) : EventWord :=
  wordOf (encodeFields i)

/-- `match` of the event's row in spec/opcode_table.json. -/
def rowMatch : Instr → EventWord
  | .nop => 0x00
  | .openSession _ _ => 0x01
  | .openReserved _ => 0x41
  | .packet _ => 0x02
  | .sendEnableTracking => 0x03
  | .sendHeadsetPower _ => 0x13
  | .sendVRMode _ => 0x23
  | .sendGenericOnOff _ _ => 0x33
  | .sendBoxPowerOff => 0x43
  | .sendCinematicConfig _ _ _ _ _ => 0x53
  | .sendReservedKind _ => 0x63
  | .writeDone _ => 0x04
  | .tick _ => 0x05
  | .close => 0x06
  | .reservedEvent => 0x07

/-- `mask` of the event's row in spec/opcode_table.json. -/
def rowMask : Instr → EventWord
  | .nop => 0x07
  | .openSession _ _ => 0x47
  | .openReserved _ => 0x47
  | .packet _ => 0x07
  | .sendEnableTracking => 0x77
  | .sendHeadsetPower _ => 0x77
  | .sendVRMode _ => 0x77
  | .sendGenericOnOff _ _ => 0x77
  | .sendBoxPowerOff => 0x77
  | .sendCinematicConfig _ _ _ _ _ => 0x77
  | .sendReservedKind _ => 0x67
  | .writeDone _ => 0x07
  | .tick _ => 0x07
  | .close => 0x07
  | .reservedEvent => 0x07

/-- The bits of the word that the event reads (R82 to R88): every other bit is unused for it (R91). For a reserved
open result the bit `use_alt` reaches no output, and spec/opcode_table.json marks it ignored. -/
def usedMask : Instr → EventWord
  | .nop => 0x07
  | .openSession _ _ => 0x7F
  | .openReserved _ => 0x77
  | .packet _ => 0x0F
  | .sendEnableTracking => 0x77
  | .sendHeadsetPower _ => 0xF7
  | .sendVRMode _ => 0xF7
  | .sendGenericOnOff _ _ => 0xFFF7
  | .sendBoxPowerOff => 0x77
  | .sendCinematicConfig _ _ _ _ _ => 0x1FFFFFFFF0077
  | .sendReservedKind _ => 0x77
  | .writeDone _ => 0x0F
  | .tick _ => 0x0F
  | .close => 0x07
  | .reservedEvent => 0x07

/-- The event word whose low `nbits` bits are those of `w` and whose other bits are 0. -/
def eventWordOfBits (nbits w : Nat) : EventWord :=
  BitVec.ofNat 64 (w % 2 ^ nbits)

/-- The event the decoder reads from a row's word; a word of more than 64 bits is no event word (R94;
DESIGN CHOICE, log entry 16). -/
def decodeTableWord (nbits w : Nat) : Option Instr :=
  if nbits ≤ 64 then some (decode (eventWordOfBits nbits w)) else none

end Sys2Proof
end

