-- ==== Sys2Proof/Machine/State.lean ====
section
/-! DEFINITION. The machine's state as plain data: the SFSM registers, the frame buffer, the sampled input ports, the
output record, the samples still to come and the parameters; and the state after reset (10_state.md, 70_reset_and_hazards.md). -/

namespace Sys2Proof.Machine

/-- `st`, the lifecycle state: codes 0, 1, 2; code 3 is reserved and never written (R22). -/
inductive Session where
  | connecting
  | streaming
  | disconnected
  deriving DecidableEq, Repr

/-- A byte buffer: (address, byte) pairs, addresses strictly rising, no entry 0; an unlisted address reads 0. -/
abbrev Memory := List Host.Cell

/-- The samples of the input ports in one step (R35). -/
structure PortSample where
  /-- `rst`: synchronous reset (R250). -/
  rst : Bool
  /-- `ev_word`: the event of the step (R80). -/
  evWord : EventWord
  /-- `rx_data`: the receive buffer `rx` of a PACKET, byte `k` of the 64 at address `k` (R50; log entry 10). -/
  rxData : Memory
  /-- `now`: the current time, read by OPEN and TICK only (R35). -/
  now : Time
  deriving DecidableEq, Repr

/-- The result `open_done` of an open (R36). -/
inductive OpenDone where
  | ok
  | err (code : ErrorCode)
  deriving DecidableEq, Repr

/-- The result `send_done` of a command (R36). -/
structure SendDone where
  ok : Bool
  err : ErrorCode
  deriving DecidableEq, Repr

/-- The Transport write request `tr_write` (R36). -/
structure WriteRequest where
  bytes : List Byte
  timeout : Nat
  deriving DecidableEq, Repr

/-- The output record of a step (R36). -/
structure Output where
  snapEvt : Option Snapshot
  removedEvt : Bool
  openDone : Option OpenDone
  sendDone : Option SendDone
  trOpen : Option Bool
  trSubscribe : Bool
  trWrite : Option WriteRequest
  trAliveQuery : Bool
  trClose : Bool
  deriving DecidableEq, Repr

/-- The EMPTY output record: every field absent or 0 (R36, R170). -/
def Output.empty : Output :=
  { snapEvt := none, removedEvt := false, openDone := none, sendDone := none, trOpen := none
    trSubscribe := false, trWrite := none, trAliveQuery := false, trClose := false }

/-- Input ports at rest: no reset, the NOP word, 64 zero bytes, time 0 (DESIGN CHOICE, log entry 3). -/
def PortSample.rest : PortSample :=
  { rst := false, evWord := 0, rxData := [], now := 0 }

/-- The state of the block. -/
structure State where
  /-- The lifecycle state (R22). -/
  st : Session
  /-- The session's belief that the device is present (R23). -/
  alive : Bool
  /-- The time of the last liveness check (R24). -/
  lastCheckAt : Time
  /-- The liveness timer is enabled (R25). -/
  timerEn : Bool
  /-- A write is outstanding (R26). -/
  wrPending : Bool
  /-- The sticky violation bit (R27). -/
  viol : Bool
  /-- Teardown waits for an outstanding write (R28). -/
  closing : Bool
  /-- The last snapshot emitted (R29). -/
  snap : Snapshot
  /-- The frame buffer, 20 bytes (R52; log entries 7 and 8). -/
  tx : Memory
  /-- The input ports as sampled for the current step (R35). -/
  ports : PortSample
  /-- The output record of the step just taken (R36; log entry 9). -/
  out : Output
  /-- The samples the host has still to present, oldest first: the model's own field (log entry 1). -/
  pending : List PortSample
  /-- The parameters of R5: the model's own field (log entry 5). -/
  params : Params
  deriving DecidableEq, Repr

/-- Why the block stops with a fault: it never does. The block's only fault is the register `viol` (R225), after
which it goes on, so this type has no constructor (DEDUCED, log entry 12). -/
inductive Fault where
  deriving DecidableEq, Repr

/-- Why the model refuses an event. -/
inductive Refusal where
  /-- Raised by no arm: every event of the table has its meaning. Refusing would be safe. -/
  | notModelled (mnemonic : String)
  deriving DecidableEq, Repr

/-- The state right after reset: every register at the value of R251, the output record EMPTY (R250), the frame
buffer 0 (log entry 8), the ports at rest (log entry 3), no sample pending (log entry 4) and the parameters at the
defaults of R5 (log entry 5). -/
def State.reset : State :=
  { st := .connecting, alive := false, lastCheckAt := 0, timerEn := false, wrPending := false, viol := false
    closing := false, snap := Snapshot.zero, tx := [], ports := PortSample.rest, out := Output.empty
    pending := [], params := Params.default }

end Sys2Proof.Machine
end

