-- ==== Sys2Proof/Machine/Operands.lean ====
section
/-! DEFINITION. The operand forms: byte and 16-bit reads of the receive buffer, the arithmetic shift, the 32-bit
little-endian payload word, and the codes of the enumerations (00_scope.md R8 to R10; 20_memory.md R50 to R57). -/

namespace Sys2Proof.Machine

/-- The byte of a buffer at an address; an unlisted one reads 0. -/
def Memory.read : Memory → Nat → Byte
  | [], _ => 0#8
  | (k, v) :: m, a => if a = k then v else Memory.read m a

/-- `MemRead(k, 1) = rx[k]` of the `REPORT_LEN` = 64 bytes (R5, R10, R50). An address past 63 does not exist and
cannot be written down (R53; log entry 11). -/
def memRead1 (rx : Memory) (k : Fin 64) : Byte :=
  rx.read k.val

/-- `MemRead(k, 2)`: `rx[k+1]` above `rx[k]`, little-endian, at any offset, even or odd (R10, R54, R57). -/
def memRead2 (rx : Memory) (k : Fin 63) : Half :=
  memRead1 rx ⟨k.val + 1, by omega⟩ ++ memRead1 rx ⟨k.val, by omega⟩

/-- `asr(v, s)`: the 16-bit arithmetic right shift, rounding toward minus infinity (R9). -/
def asr (v : Half) (s : Nat) : Half :=
  v.sshiftRight s

/-- `zext_32` of one bit (R8). -/
def zext32 (b : Bool) : Word :=
  (BitVec.ofBool b).setWidth 32

/-- The four bytes of a 32-bit word, the low byte first (R10, R55). -/
def le32 (w : Word) : List Byte :=
  [w.extractLsb' 0 8, w.extractLsb' 8 8, w.extractLsb' 16 8, w.extractLsb' 24 8]

/-- The code of `st` (R22). -/
def Session.code : Session → BitVec 2
  | .connecting => 0
  | .streaming => 1
  | .disconnected => 2

/-- The 3-bit error code (R90). -/
def ErrorCode.code : ErrorCode → BitVec 3
  | .none => 0
  | .deviceNotFound => 1
  | .deviceBusy => 2
  | .deviceMismatch => 3
  | .writeError => 4
  | .sessionClosed => 5

end Sys2Proof.Machine
end

