-- ==== Sys2Proof/Machine/Flags.lean ====
section
/-! DEFINITION. The one-bit computations: the four status flags of a report (40_unpacker.md R104 to R107), the
liveness timer's due test (R176, R12) and `cmd_ready` (R37). -/

namespace Sys2Proof.Machine

/-- WORN: bit 0 of `rx[8]` (R104). -/
def worn (rx : Memory) : Bool :=
  (memRead1 rx 8).getLsbD 0

/-- DISPLAY_ACTIVE: the inverse of bit 1 of `rx[8]` (R105). -/
def displayActive (rx : Memory) : Bool :=
  !(memRead1 rx 8).getLsbD 1

/-- MUTED: bit 3 of `rx[8]` (R106). -/
def muted (rx : Memory) : Bool :=
  (memRead1 rx 8).getLsbD 3

/-- EARPHONES: bit 4 of `rx[8]` (R107). -/
def earphones (rx : Memory) : Bool :=
  (memRead1 rx 8).getLsbD 4

/-- A probe is due: not `(now -_T last) < interval`, the difference modulo `2^32` (R12, R176). -/
def probeDue (interval : Nat) (now last : Time) : Bool :=
  decide (interval ≤ (now - last).toNat)

/-- `cmd_ready`: STREAMING and no write outstanding (R37). -/
def State.cmdReady (s : State) : Bool :=
  decide (s.st = .streaming) && !s.wrPending

end Sys2Proof.Machine
end

