-- ==== Sys2Proof/Machine/Ops.lean ====
section
/-! DEFINITION. The shared operations: the frame buffer's memory, sampling the input ports, reset, the EMPTY output
record, the violation, TEARDOWN and RELEASE. The block has no trap entry and no trap return (60_exceptions.md R224);
its one fault mechanism is `State.violate` (R225). -/

namespace Sys2Proof.Machine

/-! ## The frame buffer (20_memory.md R52) -/

/-- Put a byte into the list, keeping its canonical form: writing 0 removes the entry. -/
def Memory.put : Memory → Nat → Byte → Memory
  | [], a, b => if b = 0#8 then [] else [(a, b)]
  | (k, v) :: m, a, b =>
    if a < k then (if b = 0#8 then (k, v) :: m else (a, b) :: (k, v) :: m)
    else if a = k then (if b = 0#8 then m else (a, b) :: m)
    else (k, v) :: Memory.put m a b

/-- `MemWrite(k, 1, v)`: one byte of the frame buffer; only the addresses 0 to 19 exist (R10, R52; log entry 11). -/
def memWrite1 (m : Memory) (k : Fin Config.frameMax) (v : Byte) : Memory :=
  Memory.put m k.val v

/-- Bytes written one after another from an address on, all within the frame buffer (R140). -/
def memWriteBytes (m : Memory) (k : Nat) : (bytes : List Byte) → k + bytes.length ≤ Config.frameMax → Memory
  | [], _ => m
  | b :: bs, h =>
    memWriteBytes (memWrite1 m ⟨k, by simp only [List.length_cons] at h; omega⟩ b) (k + 1) bs
      (by simp only [List.length_cons] at h; omega)

/-- The `n` bytes from an address on. -/
def Memory.readBytes (m : Memory) (k : Nat) : Nat → List Byte
  | 0 => []
  | n + 1 => m.read k :: m.readBytes (k + 1) n

/-- Addresses strictly rising from a lower bound. -/
def Memory.rising : Nat → Memory → Bool
  | _, [] => true
  | lo, (k, _) :: m => decide (lo ≤ k) && Memory.rising (k + 1) m

/-- The canonical form of a buffer of `size` bytes: addresses strictly rising, no entry 0, every address within. -/
def Memory.wf (m : Memory) (size : Nat) : Bool :=
  Memory.rising 0 m && m.all (fun c => decide (c.2 ≠ 0#8) && decide (c.1 < size))

/-! ## One step's samples (00_scope.md R13, 10_state.md R35) -/

/-- An idle cycle of the event port: no reset and the NOP word, the other ports as they were (R171; DEDUCED,
log entry 2). -/
def idleSample (p : PortSample) : PortSample :=
  { p with rst := false, evWord := 0 }

/-- Sample the input ports: the oldest pending sample, or an idle cycle where none is pending. -/
def State.latch (s : State) : State :=
  match s.pending with
  | [] => { s with ports := idleSample s.ports }
  | p :: ps => { s with ports := p, pending := ps }

/-- The samples with an event placed as the next one: the next sample's event word is replaced and its reset taken
away; where none is pending, one is made from the ports as they are. -/
def placeEvent (w : EventWord) (last : PortSample) : List PortSample → List PortSample
  | [] => [{ last with rst := false, evWord := w }]
  | p :: ps => { p with rst := false, evWord := w } :: ps

/-- `out <- EMPTY` (R170). -/
def State.clearOut (s : State) : State :=
  { s with out := Output.empty }

/-- A step with `rst = 1`: every SFSM register takes its reset value and the output record is EMPTY (R250, R251);
the frame buffer is no SFSM register and is written only by PACK (R52; log entry 7). -/
def State.resetRegisters (s : State) : State :=
  { s with
    st := .connecting, alive := false, lastCheckAt := 0, timerEn := false, wrPending := false, viol := false
    closing := false, snap := Snapshot.zero, out := Output.empty }

/-! ## The violation and the release (30_encoding.md R93; 42_session_fsm.md R178, R179) -/

/-- A violating step: `viol <- 1`, no output, no other register (R93, R225). -/
def State.violate (s : State) : State :=
  { s.clearOut with viol := true }

/-- RELEASE: close the handle, notify the removal, end the session (R179). -/
def State.release (s : State) : State :=
  { s with
    st := .disconnected, alive := false, timerEn := false, closing := false
    out := { s.out with trClose := true, removedEvt := true } }

/-- TEARDOWN: the timer off first; RELEASE at once, or after the outstanding write (R178). -/
def State.teardown (s : State) : State :=
  if s.wrPending then { s with timerEn := false, closing := true }
  else State.release { s with timerEn := false }

/-- The Transport handle is held exactly while STREAMING (R34). -/
def State.holdsHandle (s : State) : Bool :=
  decide (s.st = .streaming)

end Sys2Proof.Machine
end

