-- ==== Sys2Proof/Machine/Pack.lean ====
section
/-! DEFINITION. PACK, the register packer: a command intent to a frame in the frame buffer (41_packer.md R140 to
R149; 30_encoding.md R74). -/

namespace Sys2Proof.Machine

/-- A payload of one 32-bit word (R143 to R146). -/
def wordPayload (w : Word) : Payload :=
  ⟨le32 w, by simp [le32]⟩

/-- EnableTracking: the words 0xFFFFFF00 and 0 (R142). -/
def enableTrackingPayload : Payload :=
  ⟨le32 0xFFFFFF00 ++ le32 0x00000000, by simp [le32]⟩

/-- CinematicConfig: size before distance, the flag inverted (R147). -/
def cinematicPayload (screenDistance screenSize brightness micVolume : Byte) (flag : Bool) : Payload :=
  ⟨[0x00, screenSize, screenDistance, 0x00, 0x00, 0x00, 0x00, 0x00, 0x00, 0x00, brightness, micVolume, 0x00, 0x00,
    if flag then 0x00 else 0x01, 0x00], by simp⟩

/-- KIND_TABLE: the report id and the payload of an intent (R142 to R147). -/
def kindTable : CommandIntent → Byte × Payload
  | .enableTracking => (0x11, enableTrackingPayload)
  | .headsetPower on => (0x17, wordPayload (zext32 on))
  | .vrMode enter => (0x23, wordPayload (zext32 enter))
  | .genericOnOff id on => (id, wordPayload (zext32 on))
  | .boxPowerOff => (0x13, wordPayload 0x00000001)
  | .cinematicConfig dist size bright mic flag => (0x21, cinematicPayload dist size bright mic flag)

/-- The frame header: report id, status 0, magic 0xAA, payload length (R141). -/
def header (id : Byte) (n : Nat) : List Byte :=
  [id, 0x00, Config.magic, BitVec.ofNat 8 n]

/-- The frame buffer PACK leaves: 20 zero bytes, then the header at 0 and the payload at 4 (R140). -/
def packTx (c : CommandIntent) : Memory :=
  let id := (kindTable c).1
  let payload := (kindTable c).2
  memWriteBytes (memWriteBytes [] 0 (header id payload.val.length) (by simp [header, Config.frameMax]))
    4 payload.val (by have := payload.property; simp only [Config.frameMax]; omega)

/-- The frame length `L = n + 4` (R140). -/
def packLen (c : CommandIntent) : Nat :=
  (kindTable c).2.val.length + 4

/-- The frame handed to the Transport, `tx[0 .. L-1]` (R140). -/
def packFrame (c : CommandIntent) : List Byte :=
  (packTx c).readBytes 0 (packLen c)

/-- The wire command of an intent (R33). -/
def wireCommand (c : CommandIntent) : WireCommand :=
  { reportId := (kindTable c).1, status := 0x00, magic := Config.magic
    length := BitVec.ofNat 8 (kindTable c).2.val.length, payload := (kindTable c).2.val }

/-- The serialised frame of a wire command (R33). -/
def WireCommand.serialise (w : WireCommand) : List Byte :=
  [w.reportId, w.status, w.magic, w.length] ++ w.payload

end Sys2Proof.Machine
end

