-- ==== Sys2Proof/Machine/Command.lean ====
section
/-! DEFINITION. The command events: SEND of each kind and WRITE_DONE (42_session_fsm.md R174, R175). -/

namespace Sys2Proof.Machine

/-- A command's result reported to the caller (R36). -/
def State.reportSend (s : State) (ok : Bool) (err : ErrorCode) : State :=
  { s with out := { Output.empty with sendDone := some { ok := ok, err := err } } }

/-- An accepted command: PACK's frame handed to the Transport, the write outstanding (R174). -/
def State.issueWrite (s : State) (c : CommandIntent) : State :=
  { s with
    wrPending := true, tx := packTx c
    out := { Output.empty with trWrite := some { bytes := packFrame c, timeout := s.params.writeTimeout } } }

/-- SEND of a kind that is not reserved: the state check, then the outstanding write (R174, R228). -/
def State.send (s : State) (c : CommandIntent) : State :=
  if s.st ≠ .streaming then s.reportSend false .sessionClosed
  else if s.wrPending then s.violate
  else s.issueWrite c

/-- SEND EnableTracking (R174, R142). -/
def execSendEnableTracking (s : State) : Host.Outcome State Fault Refusal :=
  .next (s.send .enableTracking)

/-- SEND HeadsetPower (R174, R143). -/
def execSendHeadsetPower (on : Bool) (s : State) : Host.Outcome State Fault Refusal :=
  .next (s.send (.headsetPower on))

/-- SEND VRMode (R174, R144). -/
def execSendVRMode (enter : Bool) (s : State) : Host.Outcome State Fault Refusal :=
  .next (s.send (.vrMode enter))

/-- SEND GenericOnOff (R174, R145). -/
def execSendGenericOnOff (id : Byte) (on : Bool) (s : State) : Host.Outcome State Fault Refusal :=
  .next (s.send (.genericOnOff id on))

/-- SEND BoxPowerOff (R174, R146). -/
def execSendBoxPowerOff (s : State) : Host.Outcome State Fault Refusal :=
  .next (s.send .boxPowerOff)

/-- SEND CinematicConfig (R174, R147). -/
def execSendCinematicConfig (screenDistance screenSize brightness micVolume : Byte) (flag : Bool) (s : State) :
    Host.Outcome State Fault Refusal :=
  .next (s.send (.cinematicConfig screenDistance screenSize brightness micVolume flag))

/-- SEND of a reserved kind: a violation in every state (R174, R148). -/
def execSendReservedKind (_k : BitVec 3) (s : State) : Host.Outcome State Fault Refusal :=
  .next s.violate

/-- WRITE_DONE: the outstanding write's result, then the deferred release (R175). -/
def execWriteDone (writeOk : Bool) (s : State) : Host.Outcome State Fault Refusal :=
  if s.wrPending then
    let done := { s with wrPending := false }.reportSend writeOk (if writeOk then .none else .writeError)
    if s.closing then .next done.release else .next done
  else .next s.violate

end Sys2Proof.Machine
end

