-- ==== Sys2Proof/Machine/Lifecycle.lean ====
section
/-! DEFINITION. The lifecycle events: NOP, OPEN, CLOSE and the reserved event (42_session_fsm.md R171, R172, R177,
R180). -/

namespace Sys2Proof.Machine

/-- NOP: nothing but the empty output record (R171). -/
def execNop (s : State) : Host.Outcome State Fault Refusal :=
  .next s.clearOut

/-- A failed open: the request and its error, no register (R172, R223). -/
def State.openFailed (s : State) (useAlt : Bool) (code : ErrorCode) : State :=
  { s with out := { Output.empty with trOpen := some useAlt, openDone := some (.err code) } }

/-- A successful open: the handle is taken, the timer started at `now`, the reports subscribed (R172). -/
def State.openOk (s : State) (useAlt : Bool) : State :=
  { s with
    st := .streaming, alive := true, timerEn := true, lastCheckAt := s.ports.now
    out := { Output.empty with trOpen := some useAlt, trSubscribe := true, openDone := some .ok } }

/-- OPEN with a result that is not reserved (R172). -/
def execOpenSession (useAlt : Bool) (res : OpenResult) (s : State) : Host.Outcome State Fault Refusal :=
  if s.st = .connecting then
    match res with
    | .ok => .next (s.openOk useAlt)
    | .deviceNotFound => .next (s.openFailed useAlt .deviceNotFound)
    | .deviceBusy => .next (s.openFailed useAlt .deviceBusy)
    | .deviceMismatch => .next (s.openFailed useAlt .deviceMismatch)
  else .next s.violate

/-- OPEN with a reserved result: a violation in every state (R172, R92). -/
def execOpenReserved (_res : BitVec 3) (s : State) : Host.Outcome State Fault Refusal :=
  .next s.violate

/-- CLOSE: teardown in STREAMING unless it has begun, else nothing (R177). -/
def execClose (s : State) : Host.Outcome State Fault Refusal :=
  if s.st = .streaming ∧ s.closing = false then .next s.clearOut.teardown else .next s.clearOut

/-- The reserved event: a violation in every state (R180). -/
def execReservedEvent (s : State) : Host.Outcome State Fault Refusal :=
  .next s.violate

end Sys2Proof.Machine
end

