-- ==== Sys2Proof/Machine/Liveness.lean ====
section
/-! DEFINITION. The liveness probe TICK (42_session_fsm.md R176; 60_exceptions.md R230). -/

namespace Sys2Proof.Machine

/-- The probe fires: the query driven, the time and the answer taken (R176). -/
def State.probe (s : State) (isAlive : Bool) : State :=
  { s with lastCheckAt := s.ports.now, alive := isAlive, out := { Output.empty with trAliveQuery := true } }

/-- TICK: timer enable, then the due test, then the probe; teardown where the device is absent (R176, R228). -/
def execTick (isAlive : Bool) (s : State) : Host.Outcome State Fault Refusal :=
  if s.timerEn = false then .next s.clearOut
  else if probeDue s.params.livenessInterval s.ports.now s.lastCheckAt then
    if isAlive then .next (s.probe true) else .next (s.probe false).teardown
  else .next s.clearOut

end Sys2Proof.Machine
end

