-- ==== Sys2Proof/Machine/Unpack.lean ====
section
/-! DEFINITION. UNPACK, the register unpacker: a report to a sensor snapshot (40_unpacker.md R100 to R119;
30_encoding.md R70 to R73). -/

namespace Sys2Proof.Machine

/-- BUTTONS (R102). -/
def buttons (rx : Memory) : Byte := memRead1 rx 0

/-- VOLUME (R103). -/
def volume (rx : Memory) : Byte := memRead1 rx 2

/-- An IMU sample at base `b`; 18 for A, 34 for B (R73, R108 to R111). -/
def imu (rx : Memory) (b : Fin 51) : ImuSample :=
  { sequence := memRead2 rx ⟨b.val, by omega⟩
    gyroYaw := memRead2 rx ⟨b.val + 2, by omega⟩
    gyroPitch := memRead2 rx ⟨b.val + 4, by omega⟩
    gyroRoll := memRead2 rx ⟨b.val + 6, by omega⟩
    motionX := asr (memRead2 rx ⟨b.val + 8, by omega⟩) 4
    motionY := asr (memRead2 rx ⟨b.val + 10, by omega⟩) 4
    motionZ := asr (memRead2 rx ⟨b.val + 12, by omega⟩) 4 }

/-- CALIB (R112). -/
def calib (rx : Memory) : Byte := memRead1 rx 48

/-- READY (R113). -/
def ready (rx : Memory) : Byte := memRead1 rx 49

/-- DEBUG: A to C at 50 to 52, D to H at 58 to 62 (R114). -/
def debug (rx : Memory) : DebugBytes :=
  { a := memRead1 rx 50, b := memRead1 rx 51, c := memRead1 rx 52
    d := memRead1 rx 58, e := memRead1 rx 59, f := memRead1 rx 60, g := memRead1 rx 61, h := memRead1 rx 62 }

/-- VOLTAGE_VALUE (R115). -/
def voltageValue (rx : Memory) : Byte := memRead1 rx 53

/-- VOLTAGE_REF (R116). -/
def voltageRef (rx : Memory) : Byte := memRead1 rx 54

/-- IR, at the odd offset 55, passed through with no clamp (R117). -/
def ir (rx : Memory) : Half := memRead2 rx 55

/-- PKTSEQ (R118). -/
def pktSeq (rx : Memory) : Byte := memRead1 rx 63

/-- UNPACK; a short or absent report gives ZERO_SNAPSHOT (R100, R101), and no input gives an orientation (R119). -/
def unpack (full : Bool) (rx : Memory) : Snapshot :=
  if full then
    { buttons := buttons rx, volume := volume rx, worn := worn rx, displayActive := displayActive rx
      muted := muted rx, earphonesConnected := earphones rx
      imuSampleA := imu rx 18, imuSampleB := imu rx 34
      calibrationStatus := calib rx, ready := ready rx, debugBytes := debug rx
      voltageValue := voltageValue rx, voltageReference := voltageRef rx, irSensor := ir rx
      packetSequence := pktSeq rx, orientationValid := false }
  else Snapshot.zero

/-- The named buttons that are set: bit 1 VolumeUp, bit 2 VolumeDown, bit 3 Mute (R72, R102). -/
def Snapshot.buttonSet (v : Snapshot) : List Button :=
  (if v.buttons.getLsbD 1 then [.volumeUp] else []) ++ (if v.buttons.getLsbD 2 then [.volumeDown] else [])
    ++ (if v.buttons.getLsbD 3 then [.mute] else [])

end Sys2Proof.Machine
end

