-- ==== Sys2Proof/Machine/Report.lean ====
section
/-! DEFINITION. The report event PACKET (42_session_fsm.md R173). -/

namespace Sys2Proof.Machine

/-- A snapshot emitted and held (R173, R29). -/
def State.emit (s : State) (v : Snapshot) : State :=
  { s with snap := v, out := { Output.empty with snapEvt := some v } }

/-- PACKET: UNPACK and emit in STREAMING, `closing` or not; dropped otherwise (R173). -/
def execPacket (full : Bool) (s : State) : Host.Outcome State Fault Refusal :=
  if s.st = .streaming then .next (s.emit (unpack full s.ports.rxData)) else .next s.clearOut

end Sys2Proof.Machine
end

