-- ==== Sys2Proof/Machine/Dispatch.lean ====
section
/-! DEFINITION. The dispatch of an event to its meaning (42_session_fsm.md R170). -/

namespace Sys2Proof.Machine

def exec (i : Instr) (s : State) : Host.Outcome State Fault Refusal :=
  match i with
  | .nop => Sys2Proof.Machine.execNop s
  | .openSession useAlt res => Sys2Proof.Machine.execOpenSession useAlt res s
  | .openReserved res => Sys2Proof.Machine.execOpenReserved res s
  | .packet full => Sys2Proof.Machine.execPacket full s
  | .sendEnableTracking => Sys2Proof.Machine.execSendEnableTracking s
  | .sendHeadsetPower on => Sys2Proof.Machine.execSendHeadsetPower on s
  | .sendVRMode enter => Sys2Proof.Machine.execSendVRMode enter s
  | .sendGenericOnOff id on => Sys2Proof.Machine.execSendGenericOnOff id on s
  | .sendBoxPowerOff => Sys2Proof.Machine.execSendBoxPowerOff s
  | .sendCinematicConfig dist size bright mic flag => Sys2Proof.Machine.execSendCinematicConfig dist size bright mic flag s
  | .sendReservedKind k => Sys2Proof.Machine.execSendReservedKind k s
  | .writeDone writeOk => Sys2Proof.Machine.execWriteDone writeOk s
  | .tick isAlive => Sys2Proof.Machine.execTick isAlive s
  | .close => Sys2Proof.Machine.execClose s
  | .reservedEvent => Sys2Proof.Machine.execReservedEvent s

end Sys2Proof.Machine
end

