-- ==== Sys2Proof/Machine/Step.lean ====
section
/-! DEFINITION. One step of the block: sample the ports, then reset or run the event (00_scope.md R13;
42_session_fsm.md R170; 70_reset_and_hazards.md R250). -/

namespace Sys2Proof.Machine

/-- One step. `rst = 1` is taken before, and instead of, the step of its event (R250). -/
def step (s : State) : Host.Outcome State Fault Refusal :=
  if s.latch.ports.rst then .next s.latch.resetRegisters
  else exec (decode s.latch.ports.evWord) s.latch

/-- The state with an event placed on the event port as the next one: the host drives it (log entry 4). -/
def State.withFetchWord (s : State) (nbits w : Nat) : State :=
  { s with pending := placeEvent (eventWordOfBits nbits w) s.ports s.pending }

end Sys2Proof.Machine
end

