-- ==== Sys2Proof/Machine/Ports.lean ====
section
/-! DEFINITION. The output side of the ports: the status outputs (10_state.md R37) and the order in which a reader
applies the outputs of one step (42_session_fsm.md R182). -/

namespace Sys2Proof.Machine

/-- The status outputs, driven from the registers (R37); `snap` with every field of R30 (log entry 13). -/
structure StatusOut where
  st : BitVec 2
  alive : Bool
  timerEn : Bool
  wrPending : Bool
  closing : Bool
  viol : Bool
  snap : Snapshot
  cmdReady : Bool
  deriving DecidableEq, Repr

/-- The status outputs of a state (R37). -/
def State.status (s : State) : StatusOut :=
  { st := s.st.code, alive := s.alive, timerEn := s.timerEn, wrPending := s.wrPending, closing := s.closing
    viol := s.viol, snap := s.snap, cmdReady := s.cmdReady }

/-- One driven output of a record. -/
inductive OutEvent where
  | openDone (r : OpenDone)
  | trOpen (useAlt : Bool)
  | trSubscribe
  | snapEvt (v : Snapshot)
  | trWrite (w : WriteRequest)
  | trAliveQuery
  | sendDone (r : SendDone)
  | trClose
  | removedEvt
  deriving DecidableEq, Repr

/-- The outputs a record drives, in the order of R182. -/
def Output.inOrder (o : Output) : List OutEvent :=
  (o.openDone.toList.map .openDone) ++ (o.trOpen.toList.map .trOpen) ++ (if o.trSubscribe then [.trSubscribe] else [])
    ++ (o.snapEvt.toList.map .snapEvt) ++ (o.trWrite.toList.map .trWrite)
    ++ (if o.trAliveQuery then [.trAliveQuery] else []) ++ (o.sendDone.toList.map .sendDone)
    ++ (if o.trClose then [.trClose] else []) ++ (if o.removedEvt then [.removedEvt] else [])

end Sys2Proof.Machine
end

