-- ==== Sys2Proof/Machine/Script.lean ====
section
/-! DEFINITION. How a host drives the event port: the lines of a test program (30_encoding.md R95) and the source's
surface operations as events (R96). -/

namespace Sys2Proof.Machine

/-- The kinds of SEND that are not reserved, as the events they come in (R85). -/
def sendEvent : CommandIntent → Instr
  | .enableTracking => .sendEnableTracking
  | .headsetPower on => .sendHeadsetPower on
  | .vrMode enter => .sendVRMode enter
  | .genericOnOff id on => .sendGenericOnOff id on
  | .boxPowerOff => .sendBoxPowerOff
  | .cinematicConfig dist size bright mic flag => .sendCinematicConfig dist size bright mic flag

/-! ## Surface operations (R96); `decode(raw)` is `unpack` and `encode(intent)` is `packFrame` -/

/-- A surface operation of the source, with the Transport answers the host has for it. -/
inductive SurfaceOp where
  | openSession (useAlt : Bool) (res : OpenResult)
  | sendCommand (c : CommandIntent) (writeOk : Bool)
  | close
  deriving DecidableEq, Repr

/-- The events of an operation begun in a state: an accepted SEND is followed by its WRITE_DONE (R96). -/
def SurfaceOp.events (s : State) : SurfaceOp → List Instr
  | .openSession useAlt res => [.openSession useAlt res]
  | .sendCommand c writeOk => if s.cmdReady then [sendEvent c, .writeDone writeOk] else [sendEvent c]
  | .close => [.close]

/-- Events one a sample, with the other ports held. -/
def eventSamples (last : PortSample) (is : List Instr) : List PortSample :=
  is.map fun i => { last with rst := false, evWord := encode i }

/-! ## Test programs (R95) -/

/-- A line: the time `@t` where it gives one, its event, and a PACKET's report bytes, `rx[0]` first. -/
structure ScriptLine where
  time : Option Time
  event : Instr
  report : List Byte
  deriving DecidableEq, Repr

/-- The report bytes as a buffer, the first at address `k`. -/
def reportBytes (k : Nat) : List Byte → Memory
  | [] => []
  | b :: bs => (reportBytes (k + 1) bs).put k b

/-- The samples of a program's lines: a line without `@t` keeps the previous `now`, 0 at the first line (R95). -/
def scriptSamples : (now : Time) → List ScriptLine → List PortSample
  | _, [] => []
  | now, l :: ls =>
    { rst := false, evWord := encode l.event, rxData := reportBytes 0 l.report, now := l.time.getD now }
      :: scriptSamples (l.time.getD now) ls

/-- The value of a hexadecimal digit. -/
def hexDigit (c : Char) : Option Nat :=
  if '0' ≤ c ∧ c ≤ '9' then some (c.toNat - 48)
  else if 'A' ≤ c ∧ c ≤ 'F' then some (c.toNat - 55)
  else if 'a' ≤ c ∧ c ≤ 'f' then some (c.toNat - 87)
  else none

/-- Digits in a base, the most significant first. -/
def digits (base acc : Nat) : List Char → Option Nat
  | [] => some acc
  | c :: cs => (hexDigit c).bind fun d => if d < base then digits base (base * acc + d) cs else none

/-- A number: decimal, or hexadecimal after `0x` (DEDUCED, log entry 17). -/
def number : List Char → Option Nat
  | [] => none
  | ['0', 'x'] => none
  | '0' :: 'x' :: cs => digits 16 0 cs
  | cs => digits 10 0 cs

/-- A byte argument; a wider value is no line of R95. -/
def byteArg (w : String) : Option Byte :=
  (number w.toList).bind fun n => if n < 256 then some (BitVec.ofNat 8 n) else none

/-- A bit argument. -/
def bitArg (w : String) : Option Bool :=
  if w = "0" then some false else if w = "1" then some true else none

/-- One of two words, as a bit: the first is 1. -/
def oneOf (yes no w : String) : Option Bool :=
  if w = yes then some true else if w = no then some false else none

/-- Pairs of hexadecimal digits as bytes. -/
def hexBytes : List Char → Option (List Byte)
  | [] => some []
  | [_] => none
  | h :: l :: cs =>
    (digits 16 0 [h, l]).bind fun n => (hexBytes cs).map fun bs => BitVec.ofNat 8 n :: bs

/-- The word of an open result. -/
def openWord (w : String) : Option OpenResult :=
  if w = "OK" then some .ok else if w = "NOTFOUND" then some .deviceNotFound
  else if w = "BUSY" then some .deviceBusy else if w = "MISMATCH" then some .deviceMismatch else none

/-- An event's words, the time left off: the event and the report bytes (R95). -/
def parseEvent (words : List String) : Option (Instr × List Byte) :=
  match words with
  | [w] => if w = "NOP" then some (.nop, []) else if w = "CLOSE" then some (.close, []) else none
  | [w, a] =>
    if w = "OPEN" then (openWord a).map fun r => (.openSession false r, [])
    else if w = "PACKET" then
      if a = "SHORT" then some (.packet false, [])
      else (hexBytes a.toList).bind fun bs => if bs.length = 64 then some (.packet true, bs) else none
    else if w = "SEND" then
      if a = "ENABLETRACKING" then some (.sendEnableTracking, [])
      else if a = "BOXPOWEROFF" then some (.sendBoxPowerOff, []) else none
    else if w = "WRITE_DONE" then (oneOf "OK" "FAIL" a).map fun b => (.writeDone b, [])
    else if w = "TICK" then (oneOf "ALIVE" "ABSENT" a).map fun b => (.tick b, [])
    else none
  | [w, a, b] =>
    if w = "OPEN" ∧ b = "ALT" then (openWord a).map fun r => (.openSession true r, [])
    else if w = "SEND" ∧ a = "HEADSETPOWER" then (oneOf "ON" "OFF" b).map fun on => (.sendHeadsetPower on, [])
    else if w = "SEND" ∧ a = "VRMODE" then (oneOf "ENTER" "EXIT" b).map fun enter => (.sendVRMode enter, [])
    else none
  | [w, a, id, on] =>
    if w = "SEND" ∧ a = "GENERIC" then
      (byteArg id).bind fun id => (oneOf "ON" "OFF" on).map fun on => (.sendGenericOnOff id on, [])
    else none
  | [w, a, dist, size, bright, mic, flag] =>
    if w = "SEND" ∧ a = "CINEMATIC" then
      (byteArg dist).bind fun dist => (byteArg size).bind fun size => (byteArg bright).bind fun bright =>
        (byteArg mic).bind fun mic => (bitArg flag).map fun flag => (.sendCinematicConfig dist size bright mic flag, [])
    else none
  | _ => none

/-- A line's words, `@t` first where it gives a time (R95). -/
def parseLine (words : List String) : Option ScriptLine :=
  match words with
  | [] => none
  | w :: ws =>
    match w.toList with
    | '@' :: t =>
      (number t).bind fun t => (parseEvent ws).bind fun e =>
        if t < 2 ^ 32 then some { time := some (BitVec.ofNat 32 t), event := e.1, report := e.2 } else none
    | _ => (parseEvent (w :: ws)).map fun e => { time := none, event := e.1, report := e.2 }

end Sys2Proof.Machine
end

