-- ==== Sys2Proof/Safety.lean ====
section
/-! DEFINITION. What a clean run and a consistent state are: the register invariants of 10_state.md R38, the frame
buffer's form (20_memory.md R52), the six violation causes (30_encoding.md R93), the count of removal notifications
along a run (42_session_fsm.md R183) and the duties a run's host keeps (60_exceptions.md R231, R232). -/

namespace Sys2Proof.Machine

/-- The eight SFSM registers (R22 to R29), apart from the ports, the frame buffer and the model's own fields. -/
structure Regs where
  st : Session
  alive : Bool
  lastCheckAt : Time
  timerEn : Bool
  wrPending : Bool
  viol : Bool
  closing : Bool
  snap : Snapshot
  deriving DecidableEq, Repr

/-- The registers of a state. -/
def State.regs (s : State) : Regs :=
  { st := s.st, alive := s.alive, lastCheckAt := s.lastCheckAt, timerEn := s.timerEn, wrPending := s.wrPending
    viol := s.viol, closing := s.closing, snap := s.snap }

/-- The frame buffer byte by byte is the same in both states. -/
def sameBytes (s t : State) : Prop := ∀ a, t.tx.read a = s.tx.read a

/-- Byte `k` of the report is read whole by some extractor (20_memory.md R58); of byte 8 only the bits 0, 1, 3 and
4 are. -/
def readByte (k : Nat) : Prop :=
  k = 0 ∨ k = 2 ∨ (18 ≤ k ∧ k ≤ 31) ∨ (34 ≤ k ∧ k ≤ 56) ∨ (58 ≤ k ∧ k ≤ 63)

/-- The little-endian 16-bit number at bytes `k` and `k + 1` of the report (R54). -/
def leNat (rx : Memory) (k : Nat) : Nat :=
  (rx.read k).toNat + 256 * (rx.read (k + 1)).toNat

/-- Teardown, timer, write and presence all off (R38 items 2 and 3). -/
def State.quiet (s : State) : Prop :=
  s.alive = false ∧ s.timerEn = false ∧ s.wrPending = false ∧ s.closing = false

/-- The register invariants of R38, items 2 to 5; item 1 holds by the type of `st`. -/
structure State.Inv (s : State) : Prop where
  connecting_quiet : s.st = .connecting → s.quiet
  disconnected_quiet : s.st = .disconnected → s.quiet
  closing_waits : s.closing = true → s.st = .streaming ∧ s.wrPending = true ∧ s.timerEn = false
  streaming_live : s.st = .streaming → s.closing = false → s.timerEn = true ∧ s.alive = true

/-- The frame buffer is in its canonical form and its bytes after the frame are 0 (R52). -/
structure State.FrameInv (s : State) : Prop where
  wf : s.tx.wf Config.frameMax = true
  tail_zero : ∀ a, (s.tx.read 3).toNat + 4 ≤ a → s.tx.read a = 0

/-- No violation has been recorded (R225). -/
def State.clean (s : State) : Prop := s.viol = false

/-- A SEND of a kind that is not reserved breaks the contract in STREAMING with a write outstanding (R93 item 5). -/
def secondWriter (s : State) : Bool :=
  decide (s.st = .streaming) && s.wrPending

/-- The six causes of a violation (R93). -/
def violates (i : Instr) (s : State) : Bool :=
  match i with
  | .reservedEvent => true
  | .openReserved _ => true
  | .openSession _ _ => decide (s.st ≠ .connecting)
  | .sendReservedKind _ => true
  | .sendEnableTracking => secondWriter s
  | .sendHeadsetPower _ => secondWriter s
  | .sendVRMode _ => secondWriter s
  | .sendGenericOnOff _ _ => secondWriter s
  | .sendBoxPowerOff => secondWriter s
  | .sendCinematicConfig _ _ _ _ _ => secondWriter s
  | .writeDone _ => !s.wrPending
  | .nop => false
  | .packet _ => false
  | .tick _ => false
  | .close => false

/-- No sample still to come resets the block. -/
def State.noReset (s : State) : Bool :=
  s.pending.all (fun p => !p.rst)

/-- How many of the next `n` steps drive `removed_evt`. -/
def removals : Nat → State → Nat
  | 0, _ => 0
  | n + 1, s =>
    match step s with
    | .next t => (if t.out.removedEvt then 1 else 0) + removals n t
    | .fault _ => 0
    | .refused _ => 0

/-- No write is outstanding, or the time since it was handed over is within the deadline (R263). -/
def withinDeadline (timeout : Nat) (since : Option Time) (now : Time) : Bool :=
  match since with
  | none => true
  | some t0 => decide ((now - t0).toNat ≤ timeout)

/-- The next `n` steps keep the duties of the host and the caller that a run shows: no contract violation (60_exceptions.md
R231, R232), and each WRITE_DONE, or any other step before it, within `WRITE_TIMEOUT` of its write (70_reset_and_hazards.md
R263). `since` is the time of the outstanding write; a claim about a run may take this as its premise. -/
def dutiesKept : Nat → Option Time → State → Bool
  | 0, _, _ => true
  | n + 1, since, s =>
    match step s with
    | .next t =>
      !t.viol && withinDeadline s.params.writeTimeout since t.ports.now
        && dutiesKept n (if t.wrPending then since.or (some t.ports.now) else none) t
    | .fault _ => false
    | .refused _ => false

end Sys2Proof.Machine
end

