-- ==== Sys2Proof/Certificates/Slice0/Obligations.lean ====
section
/-! DEFINITION. The statements about the block, for the provers. Each docstring names the rule of spec/ it formalises
or rests on. Statements about the registers use `State.regs`, the eight SFSM registers; what an event leaves alone of
the frame buffer and of the model's own fields is stated in the frames. -/

open Sys2Proof Sys2Proof.Machine

/-! ## Encodings (30_encoding.md) -/

/-- 30_encoding.md section 3: the decoder reads back every well-formed event with every operand value. -/
def Obligations.DecodeEncodeRoundTrip : Prop :=
  ∀ i : Instr, i.wf = true → decode (encode i) = i

/-- 30_encoding.md section 3: encoding a decoded word gives the word with its unused bits 0. -/
def Obligations.EncodeDecodeKeepsUsedBits : Prop :=
  ∀ w : EventWord, encode (decode w) = w &&& usedMask (decode w)

/-- R91: a word that agrees with the event port's on the bits its event uses, the word with its unused bits 0 among
them, is the same event and gives the same step: the same registers, outputs and frame buffer. -/
def Obligations.UnusedBitsAreIgnored : Prop :=
  ∀ (s : State) (p : PortSample) (ps : List PortSample) (w : EventWord), s.pending = p :: ps →
    w &&& usedMask (decode p.evWord) = p.evWord &&& usedMask (decode p.evWord) →
    decode w = decode p.evWord ∧
    ∃ t t', step s = .next t ∧ step { s with pending := { p with evWord := w } :: ps } = .next t' ∧
      t'.regs = t.regs ∧ t'.out = t.out ∧ t'.tx = t.tx

/-- 30_encoding.md section 4 (derived rule R94) and spec/opcode_table.json: every word lies in exactly one row, the
row of the event the decoder gives. -/
def Obligations.EveryWordLiesInOneRow : Prop :=
  ∀ (w : EventWord) (i : Instr), w &&& rowMask i = rowMatch i ↔ rowMatch i = rowMatch (decode w)

/-- 30_encoding.md section 4: what the decoder gives is well formed. -/
def Obligations.DecodedEventIsWellFormed : Prop :=
  ∀ w : EventWord, (decode w).wf = true

/-- Event words of 95_test_vectors.md, one or more of each family. -/
def Obligations.SpecWordsDecode : Prop :=
  decode 0x00 = .nop ∧ decode 0x09 = .openSession true .ok ∧ decode 0x39 = .openSession true .deviceMismatch ∧
  decode 0x41 = .openReserved 4 ∧ decode 0x0A = .packet true ∧ decode 0x93 = .sendHeadsetPower true ∧
  decode 0x15B3 = .sendGenericOnOff 0x15 true ∧
  decode 0x0000052028320053 = .sendCinematicConfig 0x32 0x28 0x20 0x05 false ∧
  decode 0x63 = .sendReservedKind 6 ∧ decode 0x0C = .writeDone true ∧ decode 0x05 = .tick false ∧
  decode 0x06 = .close ∧ decode 0x07 = .reservedEvent

/-! ## The step (00_scope.md R13, 42_session_fsm.md section 1, 70_reset_and_hazards.md section 1) -/

/-- 42_session_fsm.md section 1: a step with a pending sample that does not reset is its event's meaning, run on the
state whose ports are that sample. The queue of samples is the model's (log entry 1). -/
def Obligations.StepRunsTheDecodedEvent : Prop :=
  ∀ (s : State) (p : PortSample) (ps : List PortSample), s.pending = p :: ps → p.rst = false →
    step s = exec (decode p.evWord) { s with ports := p, pending := ps }

/-- The model's choice (log entry 2): with no sample pending the port is idle and only the outputs are cleared. -/
def Obligations.StepWithNothingPendingIsIdle : Prop :=
  ∀ s : State, s.pending = [] →
    ∃ t, step s = .next t ∧ t.regs = s.regs ∧ t.out = Output.empty ∧ sameBytes s t ∧ t.pending = [] ∧
      t.params = s.params

/-- R250 and R251: the state a run starts from has every register at its reset value, and a step with `rst = 1` gives
every register that value and drives nothing, whatever its event word is. -/
def Obligations.ResetGivesEveryRegisterItsValue : Prop :=
  State.reset.regs = { st := .connecting, alive := false, lastCheckAt := 0, timerEn := false, wrPending := false
                       viol := false, closing := false, snap := Snapshot.zero } ∧
  ∀ (s : State) (p : PortSample) (ps : List PortSample), s.pending = p :: ps → p.rst = true →
    ∃ t, step s = .next t ∧ t.regs = State.reset.regs ∧ t.out = Output.empty

/-- 42_session_fsm.md section 1: the step is total; no state faults or is refused. -/
def Obligations.EveryStepAnswersANextState : Prop :=
  ∀ s : State, ∃ t, step s = .next t

/-- 10_state.md section 5: no event changes the sampled ports, the samples still to come or the parameters (the
fields of log entries 1 and 5). -/
def Obligations.EventsKeepInputsAndParameters : Prop :=
  ∀ (i : Instr) (s t : State), exec i s = .next t → t.ports = s.ports ∧ t.pending = s.pending ∧ t.params = s.params

/-- 10_state.md section 5: the report bytes matter to PACKET only and the time to OPEN and TICK only; the event word
and `rst` on the port reach no meaning. -/
def Obligations.PortsAreReadOnlyByTheirEvents : Prop :=
  ∀ (i : Instr) (s : State) (p : PortSample),
    (∀ full, i = .packet full → p.rxData = s.ports.rxData) →
    (∀ u r, i = .openSession u r → p.now = s.ports.now) → (∀ a, i = .tick a → p.now = s.ports.now) →
    ∃ t t', exec i s = .next t ∧ exec i { s with ports := p } = .next t' ∧
      t'.regs = t.regs ∧ t'.out = t.out ∧ t'.tx = t.tx

/-! ## The lifecycle events (42_session_fsm.md R171, R172, R177, R180) -/

/-- R171: NOP writes no register and drives no output, in any state. -/
def Obligations.NopChangesNothing : Prop :=
  ∀ s : State, ∃ t, exec .nop s = .next t ∧ t.regs = s.regs ∧ t.out = Output.empty

/-- R172: OPEN with a reserved result, outside CONNECTING, with success and with each failure. -/
def Obligations.OpenFollowsItsRule : Prop :=
  ∀ s : State,
    (∀ res, ∃ t, exec (.openReserved res) s = .next t ∧ t.regs = { s.regs with viol := true } ∧
      t.out = Output.empty) ∧
    (∀ useAlt res, s.st ≠ .connecting → ∃ t, exec (.openSession useAlt res) s = .next t ∧
      t.regs = { s.regs with viol := true } ∧ t.out = Output.empty) ∧
    (∀ useAlt, s.st = .connecting → ∃ t, exec (.openSession useAlt .ok) s = .next t ∧
      t.regs = { s.regs with st := .streaming, alive := true, timerEn := true, lastCheckAt := s.ports.now } ∧
      t.out = { Output.empty with trOpen := some useAlt, trSubscribe := true, openDone := some .ok }) ∧
    (∀ useAlt, s.st = .connecting → ∃ t, exec (.openSession useAlt .deviceNotFound) s = .next t ∧ t.regs = s.regs ∧
      t.out = { Output.empty with trOpen := some useAlt, openDone := some (.err .deviceNotFound) }) ∧
    (∀ useAlt, s.st = .connecting → ∃ t, exec (.openSession useAlt .deviceBusy) s = .next t ∧ t.regs = s.regs ∧
      t.out = { Output.empty with trOpen := some useAlt, openDone := some (.err .deviceBusy) }) ∧
    (∀ useAlt, s.st = .connecting → ∃ t, exec (.openSession useAlt .deviceMismatch) s = .next t ∧ t.regs = s.regs ∧
      t.out = { Output.empty with trOpen := some useAlt, openDone := some (.err .deviceMismatch) })

/-- R177, with R178 and R179: CLOSE releases at once, waits for an outstanding write, or does nothing. -/
def Obligations.CloseFollowsItsRule : Prop :=
  ∀ s : State,
    (s.st = .streaming → s.closing = false → s.wrPending = false → ∃ t, exec .close s = .next t ∧
      t.regs = { s.regs with st := .disconnected, alive := false, timerEn := false } ∧
      t.out = { Output.empty with trClose := true, removedEvt := true }) ∧
    (s.st = .streaming → s.closing = false → s.wrPending = true → ∃ t, exec .close s = .next t ∧
      t.regs = { s.regs with timerEn := false, closing := true } ∧ t.out = Output.empty) ∧
    (s.st ≠ .streaming ∨ s.closing = true → ∃ t, exec .close s = .next t ∧ t.regs = s.regs ∧ t.out = Output.empty)

/-- R180: the reserved event sets `viol` and nothing else, in every state. -/
def Obligations.ReservedEventViolates : Prop :=
  ∀ s : State, ∃ t, exec .reservedEvent s = .next t ∧ t.regs = { s.regs with viol := true } ∧ t.out = Output.empty

/-- The frame of NOP, OPEN, CLOSE and the reserved event: no event of these writes `snap`, `wr_pending` or a byte of
the frame buffer, and OPEN, NOP and the reserved event write no `closing` (42_session_fsm.md section 2). -/
def Obligations.LifecycleEventsFrame : Prop :=
  ∀ (s t : State) (u : Bool) (r : OpenResult) (c : BitVec 3),
    (exec .nop s = .next t → t.regs = s.regs ∧ sameBytes s t) ∧
    (exec (.openSession u r) s = .next t →
      t.wrPending = s.wrPending ∧ t.closing = s.closing ∧ t.snap = s.snap ∧ sameBytes s t) ∧
    (exec (.openReserved c) s = .next t →
      t.st = s.st ∧ t.alive = s.alive ∧ t.lastCheckAt = s.lastCheckAt ∧ t.timerEn = s.timerEn ∧
      t.wrPending = s.wrPending ∧ t.closing = s.closing ∧ t.snap = s.snap ∧ sameBytes s t) ∧
    (exec .close s = .next t →
      t.lastCheckAt = s.lastCheckAt ∧ t.wrPending = s.wrPending ∧ t.viol = s.viol ∧ t.snap = s.snap ∧
      sameBytes s t) ∧
    (exec .reservedEvent s = .next t →
      t.st = s.st ∧ t.alive = s.alive ∧ t.lastCheckAt = s.lastCheckAt ∧ t.timerEn = s.timerEn ∧
      t.wrPending = s.wrPending ∧ t.closing = s.closing ∧ t.snap = s.snap ∧ sameBytes s t)

/-! ## The report event (42_session_fsm.md R173) and UNPACK (40_unpacker.md) -/

/-- R173: PACKET emits and holds UNPACK's snapshot in STREAMING and is dropped elsewhere. -/
def Obligations.PacketFollowsItsRule : Prop :=
  ∀ (full : Bool) (s : State),
    (s.st = .streaming → ∃ t, exec (.packet full) s = .next t ∧
      t.regs = { s.regs with snap := unpack full s.ports.rxData } ∧
      t.out = { Output.empty with snapEvt := some (unpack full s.ports.rxData) }) ∧
    (s.st ≠ .streaming → ∃ t, exec (.packet full) s = .next t ∧ t.regs = s.regs ∧ t.out = Output.empty)

/-- The frame of PACKET: every register but `snap`, and every byte of the frame buffer (42_session_fsm.md section 2). -/
def Obligations.PacketFrame : Prop :=
  ∀ (full : Bool) (s t : State), exec (.packet full) s = .next t →
    t.st = s.st ∧ t.alive = s.alive ∧ t.lastCheckAt = s.lastCheckAt ∧ t.timerEn = s.timerEn ∧
    t.wrPending = s.wrPending ∧ t.viol = s.viol ∧ t.closing = s.closing ∧ sameBytes s t

/-- R101: the zero snapshot is what a short report gives, and 64 zero bytes give it but for `displayActive`. -/
def Obligations.ShortReportGivesZeroSnapshot : Prop :=
  (∀ rx : Memory, unpack false rx =
    { buttons := 0, volume := 0, worn := false, displayActive := false, muted := false, earphonesConnected := false
      imuSampleA := ⟨0, 0, 0, 0, 0, 0, 0⟩, imuSampleB := ⟨0, 0, 0, 0, 0, 0, 0⟩, calibrationStatus := 0, ready := 0
      debugBytes := ⟨0, 0, 0, 0, 0, 0, 0, 0⟩, voltageValue := 0, voltageReference := 0, irSensor := 0
      packetSequence := 0, orientationValid := false }) ∧
  unpack true [] = { Snapshot.zero with displayActive := true }

/-- R70 and R71: every field of a full report's snapshot, at its offset, width and signedness: the bytes as they are,
the 16-bit fields as little-endian numbers, the motion fields the signed field shifted right by 4. -/
def Obligations.SnapshotFieldsFollowTheReportLayout : Prop :=
  ∀ (rx : Memory) (v : Snapshot), v = unpack true rx →
    (v.buttons = rx.read 0 ∧ v.volume = rx.read 2 ∧ v.worn = (rx.read 8).getLsbD 0 ∧
      v.displayActive = !(rx.read 8).getLsbD 1 ∧ v.muted = (rx.read 8).getLsbD 3 ∧
      v.earphonesConnected = (rx.read 8).getLsbD 4) ∧
    (v.imuSampleA.sequence.toNat = leNat rx 18 ∧ v.imuSampleA.gyroYaw.toNat = leNat rx 20 ∧
      v.imuSampleA.gyroPitch.toNat = leNat rx 22 ∧ v.imuSampleA.gyroRoll.toNat = leNat rx 24 ∧
      v.imuSampleA.motionX = (BitVec.ofNat 16 (leNat rx 26)).sshiftRight 4 ∧
      v.imuSampleA.motionY = (BitVec.ofNat 16 (leNat rx 28)).sshiftRight 4 ∧
      v.imuSampleA.motionZ = (BitVec.ofNat 16 (leNat rx 30)).sshiftRight 4) ∧
    (v.imuSampleB.sequence.toNat = leNat rx 34 ∧ v.imuSampleB.gyroYaw.toNat = leNat rx 36 ∧
      v.imuSampleB.gyroPitch.toNat = leNat rx 38 ∧ v.imuSampleB.gyroRoll.toNat = leNat rx 40 ∧
      v.imuSampleB.motionX = (BitVec.ofNat 16 (leNat rx 42)).sshiftRight 4 ∧
      v.imuSampleB.motionY = (BitVec.ofNat 16 (leNat rx 44)).sshiftRight 4 ∧
      v.imuSampleB.motionZ = (BitVec.ofNat 16 (leNat rx 46)).sshiftRight 4) ∧
    (v.calibrationStatus = rx.read 48 ∧ v.ready = rx.read 49 ∧
      v.debugBytes = ⟨rx.read 50, rx.read 51, rx.read 52, rx.read 58, rx.read 59, rx.read 60, rx.read 61, rx.read 62⟩ ∧
      v.voltageValue = rx.read 53 ∧ v.voltageReference = rx.read 54 ∧ v.irSensor.toNat = leNat rx 55 ∧
      v.packetSequence = rx.read 63 ∧ v.orientationValid = false)

/-- R9: the arithmetic shift copies the sign into the vacated bits, and rounds toward minus infinity. -/
def Obligations.ArithmeticShiftRoundsDown : Prop :=
  ∀ (v : Half) (n : Nat), n ≤ 15 →
    asr v n = (v.extractLsb' n (16 - n)).signExtend 16 ∧ (asr v n).toInt = Int.fdiv v.toInt (2 ^ n)

/-- R110: each motion field is the floor of a sixteenth of its signed raw field and lies in -2048..2047. -/
def Obligations.MotionIsFloorOfSixteenth : Prop :=
  ∀ (rx : Memory) (b : Fin 51),
    ((imu rx b).motionX.toInt = Int.fdiv (memRead2 rx ⟨b.val + 8, by omega⟩).toInt 16 ∧
      -2048 ≤ (imu rx b).motionX.toInt ∧ (imu rx b).motionX.toInt ≤ 2047) ∧
    ((imu rx b).motionY.toInt = Int.fdiv (memRead2 rx ⟨b.val + 10, by omega⟩).toInt 16 ∧
      -2048 ≤ (imu rx b).motionY.toInt ∧ (imu rx b).motionY.toInt ≤ 2047) ∧
    ((imu rx b).motionZ.toInt = Int.fdiv (memRead2 rx ⟨b.val + 12, by omega⟩).toInt 16 ∧
      -2048 ≤ (imu rx b).motionZ.toInt ∧ (imu rx b).motionZ.toInt ≤ 2047)

/-- 40_unpacker.md section 5 (derived rule R121): toggling a named bit of `rx[8]` changes its own field only, and
toggling an unnamed one changes nothing. -/
def Obligations.StatusBitTogglesOneField : Prop :=
  ∀ (rx rx' : Memory) (i : Nat), (∀ k, k ≠ 8 → rx'.read k = rx.read k) →
    rx'.read 8 = rx.read 8 ^^^ BitVec.twoPow 8 i →
    (i = 0 → unpack true rx' = { unpack true rx with worn := !(unpack true rx).worn }) ∧
    (i = 1 → unpack true rx' = { unpack true rx with displayActive := !(unpack true rx).displayActive }) ∧
    (i = 3 → unpack true rx' = { unpack true rx with muted := !(unpack true rx).muted }) ∧
    (i = 4 → unpack true rx' = { unpack true rx with earphonesConnected := !(unpack true rx).earphonesConnected }) ∧
    (i = 2 ∨ i = 5 ∨ i = 6 ∨ i = 7 → unpack true rx' = unpack true rx)

/-- 40_unpacker.md section 5 and 20_memory.md section 3: two reports that agree on the bytes UNPACK reads, and on the
bits 0, 1, 3 and 4 of byte 8, give the same snapshot. -/
def Obligations.UnreadReportBitsReachNoOutput : Prop :=
  ∀ (full : Bool) (rx rx' : Memory), (∀ k, readByte k → rx.read k = rx'.read k) →
    rx.read 8 &&& 0x1B = rx'.read 8 &&& 0x1B → unpack full rx = unpack full rx'

/-- R102: the buttons byte passes through, and the named buttons are its bits 1, 2 and 3. -/
def Obligations.ButtonSetReadsBitsOneToThree : Prop :=
  ∀ rx : Memory,
    (unpack true rx).buttons = memRead1 rx 0 ∧
    (Button.volumeUp ∈ (unpack true rx).buttonSet ↔ (memRead1 rx 0).getLsbD 1 = true) ∧
    (Button.volumeDown ∈ (unpack true rx).buttonSet ↔ (memRead1 rx 0).getLsbD 2 = true) ∧
    (Button.mute ∈ (unpack true rx).buttonSet ↔ (memRead1 rx 0).getLsbD 3 = true)

/-! ## The command events (42_session_fsm.md R174, R175) and PACK (41_packer.md) -/

/-- R174: SEND of a reserved kind, outside STREAMING, with a write outstanding, and accepted. -/
def Obligations.SendFollowsItsRule : Prop :=
  ∀ s : State,
    (∀ k, ∃ t, exec (.sendReservedKind k) s = .next t ∧ t.regs = { s.regs with viol := true } ∧
      t.out = Output.empty) ∧
    ∀ c : CommandIntent,
      (s.st ≠ .streaming → ∃ t, exec (sendEvent c) s = .next t ∧ t.regs = s.regs ∧
        t.out = { Output.empty with sendDone := some { ok := false, err := .sessionClosed } }) ∧
      (s.st = .streaming → s.wrPending = true → ∃ t, exec (sendEvent c) s = .next t ∧
        t.regs = { s.regs with viol := true } ∧ t.out = Output.empty) ∧
      (s.st = .streaming → s.wrPending = false → ∃ t, exec (sendEvent c) s = .next t ∧
        t.regs = { s.regs with wrPending := true } ∧
        t.out = { Output.empty with
          trWrite := some { bytes := (packTx c).readBytes 0 (packLen c), timeout := s.params.writeTimeout } })

/-- R142: the EnableTracking frame, handed over by an accepted SEND. -/
def Obligations.EnableTrackingSendsItsFrame : Prop :=
  ∀ s : State, s.st = .streaming → s.wrPending = false →
    ∃ t, exec .sendEnableTracking s = .next t ∧ t.regs = { s.regs with wrPending := true } ∧
      t.out = { Output.empty with
        trWrite := some { bytes := [0x11, 0x00, 0xAA, 0x08, 0x00, 0xFF, 0xFF, 0xFF, 0x00, 0x00, 0x00, 0x00]
                          timeout := s.params.writeTimeout } }

/-- R143: the HeadsetPower frame, on and off. -/
def Obligations.HeadsetPowerSendsItsFrame : Prop :=
  ∀ (s : State) (on : Bool), s.st = .streaming → s.wrPending = false →
    ∃ t, exec (.sendHeadsetPower on) s = .next t ∧ t.regs = { s.regs with wrPending := true } ∧
      t.out = { Output.empty with
        trWrite := some { bytes := [0x17, 0x00, 0xAA, 0x04, if on then 0x01 else 0x00, 0x00, 0x00, 0x00]
                          timeout := s.params.writeTimeout } }

/-- R144: the VRMode frame, enter and exit. -/
def Obligations.VRModeSendsItsFrame : Prop :=
  ∀ (s : State) (enter : Bool), s.st = .streaming → s.wrPending = false →
    ∃ t, exec (.sendVRMode enter) s = .next t ∧ t.regs = { s.regs with wrPending := true } ∧
      t.out = { Output.empty with
        trWrite := some { bytes := [0x23, 0x00, 0xAA, 0x04, if enter then 0x01 else 0x00, 0x00, 0x00, 0x00]
                          timeout := s.params.writeTimeout } }

/-- R145: the GenericOnOff frame carries the given report id, whichever it is. -/
def Obligations.GenericOnOffSendsItsFrame : Prop :=
  ∀ (s : State) (id : Byte) (on : Bool), s.st = .streaming → s.wrPending = false →
    ∃ t, exec (.sendGenericOnOff id on) s = .next t ∧ t.regs = { s.regs with wrPending := true } ∧
      t.out = { Output.empty with
        trWrite := some { bytes := [id, 0x00, 0xAA, 0x04, if on then 0x01 else 0x00, 0x00, 0x00, 0x00]
                          timeout := s.params.writeTimeout } }

/-- R146: the BoxPowerOff frame. -/
def Obligations.BoxPowerOffSendsItsFrame : Prop :=
  ∀ s : State, s.st = .streaming → s.wrPending = false →
    ∃ t, exec .sendBoxPowerOff s = .next t ∧ t.regs = { s.regs with wrPending := true } ∧
      t.out = { Output.empty with
        trWrite := some { bytes := [0x13, 0x00, 0xAA, 0x04, 0x01, 0x00, 0x00, 0x00]
                          timeout := s.params.writeTimeout } }

/-- R147: the CinematicConfig frame: size before distance, the flag inverted, every parameter unchanged. -/
def Obligations.CinematicConfigSendsItsFrame : Prop :=
  ∀ (s : State) (dist size bright mic : Byte) (flag : Bool), s.st = .streaming → s.wrPending = false →
    ∃ t, exec (.sendCinematicConfig dist size bright mic flag) s = .next t ∧
      t.regs = { s.regs with wrPending := true } ∧
      t.out = { Output.empty with
        trWrite := some { bytes := [0x21, 0x00, 0xAA, 0x10, 0x00, size, dist, 0x00, 0x00, 0x00, 0x00, 0x00, 0x00, 0x00,
                            bright, mic, 0x00, 0x00, if flag then 0x00 else 0x01, 0x00]
                          timeout := s.params.writeTimeout } }

/-- R148: a reserved kind writes no frame and sets `viol`, in every state; the example word holds one. -/
def Obligations.ReservedKindWritesNoFrame : Prop :=
  decode 0x0000000000000063 = .sendReservedKind 6 ∧
  ∀ (k : BitVec 3) (s : State), ∃ t, exec (.sendReservedKind k) s = .next t ∧
    t.regs = { s.regs with viol := true } ∧ t.out = Output.empty ∧ sameBytes s t

/-- R33: the frame of an intent is its wire command serialised, with the two lengths in step. -/
def Obligations.FrameIsTheSerialisedWireCommand : Prop :=
  ∀ c : CommandIntent,
    packFrame c = (wireCommand c).serialise ∧
    (wireCommand c).magic = 0xAA ∧ (wireCommand c).status = 0 ∧
    (wireCommand c).payload.length = (wireCommand c).length.toNat ∧
    (packFrame c).length = (wireCommand c).length.toNat + 4

/-- 41_packer.md section 3 (derived rule R150), R141 and R52: the header bytes, the length told by byte 3, one of the
three lengths, and zeros after the frame. -/
def Obligations.PackedBufferHasHeaderAndZeroTail : Prop :=
  ∀ c : CommandIntent,
    packLen c = ((packTx c).read 3).toNat + 4 ∧ (packTx c).read 1 = 0x00 ∧ (packTx c).read 2 = 0xAA ∧
    (packLen c = 8 ∨ packLen c = 12 ∨ packLen c = 20) ∧ ∀ a, packLen c ≤ a → (packTx c).read a = 0

/-- R175: WRITE_DONE with nothing outstanding, in an open session, and with teardown waiting. -/
def Obligations.WriteDoneFollowsItsRule : Prop :=
  ∀ (ok : Bool) (s : State),
    (s.wrPending = false → ∃ t, exec (.writeDone ok) s = .next t ∧ t.regs = { s.regs with viol := true } ∧
      t.out = Output.empty) ∧
    (s.wrPending = true → s.closing = false → ∃ t, exec (.writeDone ok) s = .next t ∧
      t.regs = { s.regs with wrPending := false } ∧
      t.out = { Output.empty with sendDone := some { ok := ok, err := if ok then .none else .writeError } }) ∧
    (s.wrPending = true → s.closing = true → ∃ t, exec (.writeDone ok) s = .next t ∧
      t.regs = { s.regs with
        wrPending := false, st := .disconnected, alive := false, timerEn := false, closing := false } ∧
      t.out = { Output.empty with
        sendDone := some { ok := ok, err := if ok then .none else .writeError }
        trClose := true, removedEvt := true })

/-- The frame of SEND: only `wr_pending`, `viol` and the frame buffer can change; the buffer changes only when the
write is handed over, and then every byte of the 20 is PACK's, none else (42_session_fsm.md section 2, 20_memory.md
section 1; that the buffer keeps its bytes otherwise is log entry 7). -/
def Obligations.SendFrame : Prop :=
  ∀ (s t : State) (c : CommandIntent), exec (sendEvent c) s = .next t →
    t.st = s.st ∧ t.alive = s.alive ∧ t.lastCheckAt = s.lastCheckAt ∧ t.timerEn = s.timerEn ∧
    t.closing = s.closing ∧ t.snap = s.snap ∧
    (s.st ≠ .streaming ∨ s.wrPending = true → sameBytes s t ∧ t.wrPending = s.wrPending) ∧
    (s.st = .streaming → s.wrPending = false →
      t.viol = s.viol ∧ (∀ a, a < 20 → t.tx.read a = (packTx c).read a) ∧
      (s.tx.wf Config.frameMax = true → ∀ a, 20 ≤ a → t.tx.read a = s.tx.read a))

/-- The frame of WRITE_DONE, of TICK and of the reserved kind: `snap` and every byte of the frame buffer
(42_session_fsm.md section 2), and each event's own unwritten registers. -/
def Obligations.WriteDoneAndTickFrame : Prop :=
  ∀ (s t : State) (b : Bool) (k : BitVec 3),
    (exec (.writeDone b) s = .next t → t.lastCheckAt = s.lastCheckAt ∧ t.snap = s.snap ∧ sameBytes s t ∧
      (s.wrPending = true → t.viol = s.viol) ∧
      (s.closing = false → t.st = s.st ∧ t.alive = s.alive ∧ t.timerEn = s.timerEn ∧ t.closing = false)) ∧
    (exec (.tick b) s = .next t → t.wrPending = s.wrPending ∧ t.viol = s.viol ∧ t.snap = s.snap ∧ sameBytes s t ∧
      (b = true → t.st = s.st ∧ t.timerEn = s.timerEn ∧ t.closing = s.closing)) ∧
    (exec (.sendReservedKind k) s = .next t →
      t.st = s.st ∧ t.alive = s.alive ∧ t.lastCheckAt = s.lastCheckAt ∧ t.timerEn = s.timerEn ∧
      t.wrPending = s.wrPending ∧ t.closing = s.closing ∧ t.snap = s.snap ∧ sameBytes s t)

/-- 10_state.md section 5 and 60_exceptions.md section 6: `cmd_ready` tells exactly when a SEND hands over a write. -/
def Obligations.CommandReadyMeansAccepted : Prop :=
  ∀ (s : State) (c : CommandIntent),
    s.cmdReady = true ↔ ∃ t, exec (sendEvent c) s = .next t ∧ t.out.trWrite ≠ none

/-- 30_encoding.md section 5 (derived rule R96): a `sendCommand` begun while `cmd_ready` is its SEND and the host's
WRITE_DONE, and the second step gives the caller the write's result; begun without it, its one step gives
SessionClosed or, for a second writer, nothing. -/
def Obligations.SendCommandReturnsItsResult : Prop :=
  ∀ (s : State) (c : CommandIntent) (ok : Bool),
    s.pending = eventSamples s.ports ((SurfaceOp.sendCommand c ok).events s) →
    (s.cmdReady = true → s.closing = false → ∃ t, Host.Core.run core 2 s = .next t ∧ t.pending = [] ∧
      t.regs = s.regs ∧ t.out = { Output.empty with
        sendDone := some { ok := ok, err := if ok then .none else .writeError } }) ∧
    (s.cmdReady = false → ∃ t, Host.Core.run core 1 s = .next t ∧ t.pending = [] ∧
      t.out.sendDone = if s.st = .streaming then none else some { ok := false, err := .sessionClosed })

/-! ## The liveness probe (42_session_fsm.md R176, 00_scope.md R12) -/

/-- 00_scope.md section 5: the time difference is that of the integers modulo `2^32`, so a wrapped clock still
fires the probe. -/
def Obligations.DueTestIsModular : Prop :=
  ∀ (interval : Nat) (now last : Time),
    probeDue interval now last = true ↔ (interval : Int) ≤ ((now.toNat : Int) - (last.toNat : Int)) % 2 ^ 32

/-- R176, with R178 and R179: TICK with the timer off, not due, due with the device present, and due with it absent
without and with an outstanding write. -/
def Obligations.TickFollowsItsRule : Prop :=
  ∀ s : State,
    (∀ a, s.timerEn = false → ∃ t, exec (.tick a) s = .next t ∧ t.regs = s.regs ∧ t.out = Output.empty) ∧
    (∀ a, s.timerEn = true → (s.ports.now - s.lastCheckAt).toNat < s.params.livenessInterval →
      ∃ t, exec (.tick a) s = .next t ∧ t.regs = s.regs ∧ t.out = Output.empty) ∧
    (s.timerEn = true → s.params.livenessInterval ≤ (s.ports.now - s.lastCheckAt).toNat →
      ∃ t, exec (.tick true) s = .next t ∧ t.regs = { s.regs with lastCheckAt := s.ports.now, alive := true } ∧
        t.out = { Output.empty with trAliveQuery := true }) ∧
    (s.timerEn = true → s.params.livenessInterval ≤ (s.ports.now - s.lastCheckAt).toNat → s.wrPending = false →
      ∃ t, exec (.tick false) s = .next t ∧
        t.regs = { s.regs with
          lastCheckAt := s.ports.now, alive := false, timerEn := false, st := .disconnected, closing := false } ∧
        t.out = { Output.empty with trAliveQuery := true, trClose := true, removedEvt := true }) ∧
    (s.timerEn = true → s.params.livenessInterval ≤ (s.ports.now - s.lastCheckAt).toNat → s.wrPending = true →
      ∃ t, exec (.tick false) s = .next t ∧
        t.regs = { s.regs with lastCheckAt := s.ports.now, alive := false, timerEn := false, closing := true } ∧
        t.out = { Output.empty with trAliveQuery := true })

/-! ## The whole machine -/

/-- R93: `viol` is set by the six causes and by nothing else and no event clears it; with 60_exceptions.md section 2,
a violating step changes nothing else and drives nothing. -/
def Obligations.ViolationBitRule : Prop :=
  ∀ (i : Instr) (s t : State), exec i s = .next t →
    t.viol = (s.viol || violates i s) ∧
    (violates i s = true → t.regs = { s.regs with viol := true } ∧ t.out = Output.empty ∧ sameBytes s t)

/-- 10_state.md section 6 (derived rule R38): every step keeps the register invariants, from every state that has
them, a reset step included. -/
def Obligations.StepKeepsTheRegisterInvariants : Prop :=
  ∀ s t : State, s.Inv → step s = .next t → t.Inv

/-- 20_memory.md section 1: every step keeps the frame buffer's canonical form and the zeros after its frame. -/
def Obligations.StepKeepsTheFrameBufferForm : Prop :=
  ∀ s t : State, s.FrameInv → step s = .next t → t.FrameInv

/-- 10_state.md section 6: the state after reset has the register invariants and the frame buffer's form (its
contents then are the model's choice, log entry 8). -/
def Obligations.ResetStateHasTheInvariants : Prop :=
  State.reset.Inv ∧ State.reset.FrameInv

/-- 42_session_fsm.md section 4 (derived rule R184): in DISCONNECTED no event changes a register but `viol`, and only
a violation changes that. -/
def Obligations.DisconnectedIsTerminal : Prop :=
  ∀ (i : Instr) (s t : State), s.Inv → s.st = .disconnected → exec i s = .next t →
    t.regs = { s.regs with viol := s.viol || violates i s }

/-- 42_session_fsm.md section 4 (derived rule R183): without a reset, the removal is notified at most once in any
run, from any state with the register invariants. -/
def Obligations.RemovalIsNotifiedAtMostOnce : Prop :=
  ∀ (n : Nat) (s : State), s.Inv → s.noReset = true → removals n s ≤ 1

/-- 42_session_fsm.md section 4: after DISCONNECTED, without a reset, every later step of a run drives nothing but
the SessionClosed answer, and the session stays closed. -/
def Obligations.NothingFollowsDisconnected : Prop :=
  ∀ (n : Nat) (s t : State), s.Inv → s.st = .disconnected → s.noReset = true →
    Host.Core.run core (n + 1) s = .next t →
    t.regs = { s.regs with viol := t.viol } ∧ (s.viol = true → t.viol = true) ∧
    (t.out = Output.empty ∨ t.out = { Output.empty with sendDone := some { ok := false, err := .sessionClosed } })

/-- 42_session_fsm.md section 3: the handle is closed and the removal notified in exactly the steps that leave
STREAMING. -/
def Obligations.RemovalMarksLeavingStreaming : Prop :=
  ∀ (i : Instr) (s t : State), s.Inv → exec i s = .next t →
    t.out.trClose = t.out.removedEvt ∧ (t.out.removedEvt = true ↔ s.st = .streaming ∧ t.st ≠ .streaming) ∧
    (t.out.removedEvt = true → t.wrPending = false)

/-- 70_reset_and_hazards.md section 3: a write is handed over only while STREAMING with none outstanding, and an
outstanding one stays so until WRITE_DONE. -/
def Obligations.AtMostOneWriteIsOutstanding : Prop :=
  ∀ (i : Instr) (s t : State), exec i s = .next t →
    (t.out.trWrite ≠ none → s.st = .streaming ∧ s.wrPending = false ∧ t.wrPending = true) ∧
    (s.wrPending = true → (∀ ok, i ≠ .writeDone ok) → t.wrPending = true)

/-- 70_reset_and_hazards.md section 3 (derived rule R262): a probe fires only on a held handle with the timer on and
no teardown begun, and the timer is off in the step teardown begins. -/
def Obligations.NoProbeAfterTeardownBegins : Prop :=
  ∀ (i : Instr) (s t : State), s.Inv → exec i s = .next t →
    (t.out.trAliveQuery = true → s.holdsHandle = true ∧ s.timerEn = true ∧ s.closing = false) ∧
    (t.st = .disconnected ∨ t.closing = true → t.timerEn = false)

/-- 70_reset_and_hazards.md section 3: CLOSE with a write outstanding and then its WRITE_DONE release the session,
with the write's result before the close and the removal. -/
def Obligations.DeferredReleaseCompletes : Prop :=
  ∀ (s : State) (p q : PortSample) (ps : List PortSample) (ok : Bool), s.pending = p :: q :: ps →
    p.rst = false → q.rst = false → decode p.evWord = .close → decode q.evWord = .writeDone ok →
    s.st = .streaming → s.closing = false → s.wrPending = true →
    ∃ t, Host.Core.run core 2 s = .next t ∧ t.st = .disconnected ∧ t.wrPending = false ∧ t.closing = false ∧
      t.viol = s.viol ∧
      t.out.inOrder = [.sendDone { ok := ok, err := if ok then .none else .writeError }, .trClose, .removedEvt]

/-- 42_session_fsm.md section 4: the outputs of a successful OPEN and of a TICK that tears down, in the order of R182. -/
def Obligations.OutputsComeInOrder : Prop :=
  ∀ (s : State) (u : Bool),
    (s.st = .connecting → ∃ t, exec (.openSession u .ok) s = .next t ∧
      t.out.inOrder = [.openDone .ok, .trOpen u, .trSubscribe]) ∧
    (s.timerEn = true → s.params.livenessInterval ≤ (s.ports.now - s.lastCheckAt).toNat → s.wrPending = false →
      ∃ t, exec (.tick false) s = .next t ∧ t.out.inOrder = [.trAliveQuery, .trClose, .removedEvt])
end

