-- ==== Sys2Proof/Laws/Decode.lean ====
section
/-! SUPPORT. The event word and its fields: each is the other's inverse, the unused bits 63:49 apart. -/

namespace Sys2Proof

/-- The fields written into a word are read back. -/
theorem fieldsOf_wordOf (f : Fields) : fieldsOf (wordOf f) = f := by
  obtain ⟨ev, b, k, on, gid, dist, size, bright, mic, flag⟩ := f
  simp only [fieldsOf, wordOf, Fields.mk.injEq]
  refine ⟨?_, ?_, ?_, ?_, ?_, ?_, ?_, ?_, ?_, ?_⟩
  all_goals first
    | (apply BitVec.eq_of_getLsbD_eq
       intro i hi
       simp only [BitVec.getLsbD_extractLsb', BitVec.getLsbD_append, hi, decide_true, Bool.true_and]
       interval_cases i <;> simp)
    | (simp only [BitVec.getLsbD_append]; simp)

/-- A word put together from its own fields keeps bits 48:0 and loses the unused bits 63:49. -/
theorem wordOf_fieldsOf (w : EventWord) : wordOf (fieldsOf w) = w &&& 0x1FFFFFFFFFFFF := by
  apply BitVec.eq_of_getLsbD_eq
  intro i hi
  simp only [fieldsOf, wordOf, BitVec.getLsbD_append, BitVec.getLsbD_and, BitVec.getLsbD_extractLsb',
    BitVec.getLsbD_ofBool]
  interval_cases i <;> simp

/-- The fields of the bitwise and of two words, one by one. -/
def Fields.and (f g : Fields) : Fields :=
  { ev := f.ev &&& g.ev, b := f.b && g.b, k := f.k &&& g.k, on := f.on && g.on, gid := f.gid &&& g.gid
    dist := f.dist &&& g.dist, size := f.size &&& g.size, bright := f.bright &&& g.bright, mic := f.mic &&& g.mic
    flag := f.flag && g.flag }

/-- The fields of the bitwise and. -/
theorem fieldsOf_and (w v : EventWord) : fieldsOf (w &&& v) = (fieldsOf w).and (fieldsOf v) := by
  simp [fieldsOf, Fields.and, BitVec.extractLsb'_and]

/-- Two words put together from fields are equal only where the fields are. -/
theorem wordOf_inj {f g : Fields} : wordOf f = wordOf g ↔ f = g :=
  ⟨fun h => by rw [← fieldsOf_wordOf f, h, fieldsOf_wordOf], fun h => h ▸ rfl⟩

/-- A mask that is itself the word of some fields acts on a word through the word's fields. -/
theorem and_wordOf (w : EventWord) (g : Fields) : w &&& wordOf g = wordOf ((fieldsOf w).and g) := by
  have hg : wordOf g &&& 0x1FFFFFFFFFFFF = wordOf g := by rw [← wordOf_fieldsOf, fieldsOf_wordOf]
  have hx : w &&& wordOf g = w &&& wordOf g &&& 0x1FFFFFFFFFFFF := by rw [BitVec.and_assoc, hg]
  rw [hx, ← wordOf_fieldsOf, fieldsOf_and, fieldsOf_wordOf]

end Sys2Proof
end

