-- ==== Sys2Proof/Laws/State.lean ====
section
/-! SUPPORT. What each named update of the state does to each field: one lemma a field, true by `rfl`, so that no later
proof unfolds a record update. -/

namespace Sys2Proof.Machine

variable (s : State)

/-! ## `State.clearOut` -/

@[simp] theorem State.clearOut_st : (s.clearOut).st = s.st := rfl
@[simp] theorem State.clearOut_alive : (s.clearOut).alive = s.alive := rfl
@[simp] theorem State.clearOut_lastCheckAt : (s.clearOut).lastCheckAt = s.lastCheckAt := rfl
@[simp] theorem State.clearOut_timerEn : (s.clearOut).timerEn = s.timerEn := rfl
@[simp] theorem State.clearOut_wrPending : (s.clearOut).wrPending = s.wrPending := rfl
@[simp] theorem State.clearOut_viol : (s.clearOut).viol = s.viol := rfl
@[simp] theorem State.clearOut_closing : (s.clearOut).closing = s.closing := rfl
@[simp] theorem State.clearOut_snap : (s.clearOut).snap = s.snap := rfl
@[simp] theorem State.clearOut_tx : (s.clearOut).tx = s.tx := rfl
@[simp] theorem State.clearOut_ports : (s.clearOut).ports = s.ports := rfl
@[simp] theorem State.clearOut_out : (s.clearOut).out = Output.empty := rfl
@[simp] theorem State.clearOut_pending : (s.clearOut).pending = s.pending := rfl
@[simp] theorem State.clearOut_params : (s.clearOut).params = s.params := rfl

/-! ## `State.violate` -/

@[simp] theorem State.violate_st : (s.violate).st = s.st := rfl
@[simp] theorem State.violate_alive : (s.violate).alive = s.alive := rfl
@[simp] theorem State.violate_lastCheckAt : (s.violate).lastCheckAt = s.lastCheckAt := rfl
@[simp] theorem State.violate_timerEn : (s.violate).timerEn = s.timerEn := rfl
@[simp] theorem State.violate_wrPending : (s.violate).wrPending = s.wrPending := rfl
@[simp] theorem State.violate_viol : (s.violate).viol = true := rfl
@[simp] theorem State.violate_closing : (s.violate).closing = s.closing := rfl
@[simp] theorem State.violate_snap : (s.violate).snap = s.snap := rfl
@[simp] theorem State.violate_tx : (s.violate).tx = s.tx := rfl
@[simp] theorem State.violate_ports : (s.violate).ports = s.ports := rfl
@[simp] theorem State.violate_out : (s.violate).out = Output.empty := rfl
@[simp] theorem State.violate_pending : (s.violate).pending = s.pending := rfl
@[simp] theorem State.violate_params : (s.violate).params = s.params := rfl

/-! ## `State.release` -/

@[simp] theorem State.release_st : (s.release).st = .disconnected := rfl
@[simp] theorem State.release_alive : (s.release).alive = false := rfl
@[simp] theorem State.release_lastCheckAt : (s.release).lastCheckAt = s.lastCheckAt := rfl
@[simp] theorem State.release_timerEn : (s.release).timerEn = false := rfl
@[simp] theorem State.release_wrPending : (s.release).wrPending = s.wrPending := rfl
@[simp] theorem State.release_viol : (s.release).viol = s.viol := rfl
@[simp] theorem State.release_closing : (s.release).closing = false := rfl
@[simp] theorem State.release_snap : (s.release).snap = s.snap := rfl
@[simp] theorem State.release_tx : (s.release).tx = s.tx := rfl
@[simp] theorem State.release_ports : (s.release).ports = s.ports := rfl
@[simp] theorem State.release_out : (s.release).out = { s.out with trClose := true, removedEvt := true } := rfl
@[simp] theorem State.release_pending : (s.release).pending = s.pending := rfl
@[simp] theorem State.release_params : (s.release).params = s.params := rfl

/-! ## `State.resetRegisters` -/

@[simp] theorem State.resetRegisters_st : (s.resetRegisters).st = .connecting := rfl
@[simp] theorem State.resetRegisters_alive : (s.resetRegisters).alive = false := rfl
@[simp] theorem State.resetRegisters_lastCheckAt : (s.resetRegisters).lastCheckAt = 0 := rfl
@[simp] theorem State.resetRegisters_timerEn : (s.resetRegisters).timerEn = false := rfl
@[simp] theorem State.resetRegisters_wrPending : (s.resetRegisters).wrPending = false := rfl
@[simp] theorem State.resetRegisters_viol : (s.resetRegisters).viol = false := rfl
@[simp] theorem State.resetRegisters_closing : (s.resetRegisters).closing = false := rfl
@[simp] theorem State.resetRegisters_snap : (s.resetRegisters).snap = Snapshot.zero := rfl
@[simp] theorem State.resetRegisters_tx : (s.resetRegisters).tx = s.tx := rfl
@[simp] theorem State.resetRegisters_ports : (s.resetRegisters).ports = s.ports := rfl
@[simp] theorem State.resetRegisters_out : (s.resetRegisters).out = Output.empty := rfl
@[simp] theorem State.resetRegisters_pending : (s.resetRegisters).pending = s.pending := rfl
@[simp] theorem State.resetRegisters_params : (s.resetRegisters).params = s.params := rfl

/-! ## `State.openFailed` -/

@[simp] theorem State.openFailed_st (u : Bool) (e : ErrorCode) : (s.openFailed u e).st = s.st := rfl
@[simp] theorem State.openFailed_alive (u : Bool) (e : ErrorCode) : (s.openFailed u e).alive = s.alive := rfl
@[simp] theorem State.openFailed_lastCheckAt (u : Bool) (e : ErrorCode) : (s.openFailed u e).lastCheckAt = s.lastCheckAt := rfl
@[simp] theorem State.openFailed_timerEn (u : Bool) (e : ErrorCode) : (s.openFailed u e).timerEn = s.timerEn := rfl
@[simp] theorem State.openFailed_wrPending (u : Bool) (e : ErrorCode) : (s.openFailed u e).wrPending = s.wrPending := rfl
@[simp] theorem State.openFailed_viol (u : Bool) (e : ErrorCode) : (s.openFailed u e).viol = s.viol := rfl
@[simp] theorem State.openFailed_closing (u : Bool) (e : ErrorCode) : (s.openFailed u e).closing = s.closing := rfl
@[simp] theorem State.openFailed_snap (u : Bool) (e : ErrorCode) : (s.openFailed u e).snap = s.snap := rfl
@[simp] theorem State.openFailed_tx (u : Bool) (e : ErrorCode) : (s.openFailed u e).tx = s.tx := rfl
@[simp] theorem State.openFailed_ports (u : Bool) (e : ErrorCode) : (s.openFailed u e).ports = s.ports := rfl
@[simp] theorem State.openFailed_out (u : Bool) (e : ErrorCode) : (s.openFailed u e).out = { Output.empty with trOpen := some u, openDone := some (.err e) } := rfl
@[simp] theorem State.openFailed_pending (u : Bool) (e : ErrorCode) : (s.openFailed u e).pending = s.pending := rfl
@[simp] theorem State.openFailed_params (u : Bool) (e : ErrorCode) : (s.openFailed u e).params = s.params := rfl

/-! ## `State.openOk` -/

@[simp] theorem State.openOk_st (u : Bool) : (s.openOk u).st = .streaming := rfl
@[simp] theorem State.openOk_alive (u : Bool) : (s.openOk u).alive = true := rfl
@[simp] theorem State.openOk_lastCheckAt (u : Bool) : (s.openOk u).lastCheckAt = s.ports.now := rfl
@[simp] theorem State.openOk_timerEn (u : Bool) : (s.openOk u).timerEn = true := rfl
@[simp] theorem State.openOk_wrPending (u : Bool) : (s.openOk u).wrPending = s.wrPending := rfl
@[simp] theorem State.openOk_viol (u : Bool) : (s.openOk u).viol = s.viol := rfl
@[simp] theorem State.openOk_closing (u : Bool) : (s.openOk u).closing = s.closing := rfl
@[simp] theorem State.openOk_snap (u : Bool) : (s.openOk u).snap = s.snap := rfl
@[simp] theorem State.openOk_tx (u : Bool) : (s.openOk u).tx = s.tx := rfl
@[simp] theorem State.openOk_ports (u : Bool) : (s.openOk u).ports = s.ports := rfl
@[simp] theorem State.openOk_out (u : Bool) : (s.openOk u).out = { Output.empty with trOpen := some u, trSubscribe := true, openDone := some .ok } := rfl
@[simp] theorem State.openOk_pending (u : Bool) : (s.openOk u).pending = s.pending := rfl
@[simp] theorem State.openOk_params (u : Bool) : (s.openOk u).params = s.params := rfl

/-! ## `State.emit` -/

@[simp] theorem State.emit_st (v : Snapshot) : (s.emit v).st = s.st := rfl
@[simp] theorem State.emit_alive (v : Snapshot) : (s.emit v).alive = s.alive := rfl
@[simp] theorem State.emit_lastCheckAt (v : Snapshot) : (s.emit v).lastCheckAt = s.lastCheckAt := rfl
@[simp] theorem State.emit_timerEn (v : Snapshot) : (s.emit v).timerEn = s.timerEn := rfl
@[simp] theorem State.emit_wrPending (v : Snapshot) : (s.emit v).wrPending = s.wrPending := rfl
@[simp] theorem State.emit_viol (v : Snapshot) : (s.emit v).viol = s.viol := rfl
@[simp] theorem State.emit_closing (v : Snapshot) : (s.emit v).closing = s.closing := rfl
@[simp] theorem State.emit_snap (v : Snapshot) : (s.emit v).snap = v := rfl
@[simp] theorem State.emit_tx (v : Snapshot) : (s.emit v).tx = s.tx := rfl
@[simp] theorem State.emit_ports (v : Snapshot) : (s.emit v).ports = s.ports := rfl
@[simp] theorem State.emit_out (v : Snapshot) : (s.emit v).out = { Output.empty with snapEvt := some v } := rfl
@[simp] theorem State.emit_pending (v : Snapshot) : (s.emit v).pending = s.pending := rfl
@[simp] theorem State.emit_params (v : Snapshot) : (s.emit v).params = s.params := rfl

/-! ## `State.reportSend` -/

@[simp] theorem State.reportSend_st (ok : Bool) (e : ErrorCode) : (s.reportSend ok e).st = s.st := rfl
@[simp] theorem State.reportSend_alive (ok : Bool) (e : ErrorCode) : (s.reportSend ok e).alive = s.alive := rfl
@[simp] theorem State.reportSend_lastCheckAt (ok : Bool) (e : ErrorCode) : (s.reportSend ok e).lastCheckAt = s.lastCheckAt := rfl
@[simp] theorem State.reportSend_timerEn (ok : Bool) (e : ErrorCode) : (s.reportSend ok e).timerEn = s.timerEn := rfl
@[simp] theorem State.reportSend_wrPending (ok : Bool) (e : ErrorCode) : (s.reportSend ok e).wrPending = s.wrPending := rfl
@[simp] theorem State.reportSend_viol (ok : Bool) (e : ErrorCode) : (s.reportSend ok e).viol = s.viol := rfl
@[simp] theorem State.reportSend_closing (ok : Bool) (e : ErrorCode) : (s.reportSend ok e).closing = s.closing := rfl
@[simp] theorem State.reportSend_snap (ok : Bool) (e : ErrorCode) : (s.reportSend ok e).snap = s.snap := rfl
@[simp] theorem State.reportSend_tx (ok : Bool) (e : ErrorCode) : (s.reportSend ok e).tx = s.tx := rfl
@[simp] theorem State.reportSend_ports (ok : Bool) (e : ErrorCode) : (s.reportSend ok e).ports = s.ports := rfl
@[simp] theorem State.reportSend_out (ok : Bool) (e : ErrorCode) : (s.reportSend ok e).out = { Output.empty with sendDone := some { ok := ok, err := e } } := rfl
@[simp] theorem State.reportSend_pending (ok : Bool) (e : ErrorCode) : (s.reportSend ok e).pending = s.pending := rfl
@[simp] theorem State.reportSend_params (ok : Bool) (e : ErrorCode) : (s.reportSend ok e).params = s.params := rfl

/-! ## `State.issueWrite` -/

@[simp] theorem State.issueWrite_st (c : CommandIntent) : (s.issueWrite c).st = s.st := rfl
@[simp] theorem State.issueWrite_alive (c : CommandIntent) : (s.issueWrite c).alive = s.alive := rfl
@[simp] theorem State.issueWrite_lastCheckAt (c : CommandIntent) : (s.issueWrite c).lastCheckAt = s.lastCheckAt := rfl
@[simp] theorem State.issueWrite_timerEn (c : CommandIntent) : (s.issueWrite c).timerEn = s.timerEn := rfl
@[simp] theorem State.issueWrite_wrPending (c : CommandIntent) : (s.issueWrite c).wrPending = true := rfl
@[simp] theorem State.issueWrite_viol (c : CommandIntent) : (s.issueWrite c).viol = s.viol := rfl
@[simp] theorem State.issueWrite_closing (c : CommandIntent) : (s.issueWrite c).closing = s.closing := rfl
@[simp] theorem State.issueWrite_snap (c : CommandIntent) : (s.issueWrite c).snap = s.snap := rfl
@[simp] theorem State.issueWrite_tx (c : CommandIntent) : (s.issueWrite c).tx = packTx c := rfl
@[simp] theorem State.issueWrite_ports (c : CommandIntent) : (s.issueWrite c).ports = s.ports := rfl
@[simp] theorem State.issueWrite_out (c : CommandIntent) : (s.issueWrite c).out = { Output.empty with trWrite := some { bytes := packFrame c, timeout := s.params.writeTimeout } } := rfl
@[simp] theorem State.issueWrite_pending (c : CommandIntent) : (s.issueWrite c).pending = s.pending := rfl
@[simp] theorem State.issueWrite_params (c : CommandIntent) : (s.issueWrite c).params = s.params := rfl

/-! ## `State.probe` -/

@[simp] theorem State.probe_st (a : Bool) : (s.probe a).st = s.st := rfl
@[simp] theorem State.probe_alive (a : Bool) : (s.probe a).alive = a := rfl
@[simp] theorem State.probe_lastCheckAt (a : Bool) : (s.probe a).lastCheckAt = s.ports.now := rfl
@[simp] theorem State.probe_timerEn (a : Bool) : (s.probe a).timerEn = s.timerEn := rfl
@[simp] theorem State.probe_wrPending (a : Bool) : (s.probe a).wrPending = s.wrPending := rfl
@[simp] theorem State.probe_viol (a : Bool) : (s.probe a).viol = s.viol := rfl
@[simp] theorem State.probe_closing (a : Bool) : (s.probe a).closing = s.closing := rfl
@[simp] theorem State.probe_snap (a : Bool) : (s.probe a).snap = s.snap := rfl
@[simp] theorem State.probe_tx (a : Bool) : (s.probe a).tx = s.tx := rfl
@[simp] theorem State.probe_ports (a : Bool) : (s.probe a).ports = s.ports := rfl
@[simp] theorem State.probe_out (a : Bool) : (s.probe a).out = { Output.empty with trAliveQuery := true } := rfl
@[simp] theorem State.probe_pending (a : Bool) : (s.probe a).pending = s.pending := rfl
@[simp] theorem State.probe_params (a : Bool) : (s.probe a).params = s.params := rfl

/-! ## `State.latch`: only the ports and the pending samples change -/

@[simp] theorem State.latch_st : s.latch.st = s.st := by
  unfold State.latch; split <;> rfl
@[simp] theorem State.latch_alive : s.latch.alive = s.alive := by
  unfold State.latch; split <;> rfl
@[simp] theorem State.latch_lastCheckAt : s.latch.lastCheckAt = s.lastCheckAt := by
  unfold State.latch; split <;> rfl
@[simp] theorem State.latch_timerEn : s.latch.timerEn = s.timerEn := by
  unfold State.latch; split <;> rfl
@[simp] theorem State.latch_wrPending : s.latch.wrPending = s.wrPending := by
  unfold State.latch; split <;> rfl
@[simp] theorem State.latch_viol : s.latch.viol = s.viol := by
  unfold State.latch; split <;> rfl
@[simp] theorem State.latch_closing : s.latch.closing = s.closing := by
  unfold State.latch; split <;> rfl
@[simp] theorem State.latch_snap : s.latch.snap = s.snap := by
  unfold State.latch; split <;> rfl
@[simp] theorem State.latch_tx : s.latch.tx = s.tx := by
  unfold State.latch; split <;> rfl
@[simp] theorem State.latch_out : s.latch.out = s.out := by
  unfold State.latch; split <;> rfl
@[simp] theorem State.latch_params : s.latch.params = s.params := by
  unfold State.latch; split <;> rfl

/-- Sampling takes the oldest pending sample. -/
theorem State.latch_cons {p : PortSample} {ps : List PortSample} (h : s.pending = p :: ps) :
    s.latch = { s with ports := p, pending := ps } := by
  simp [State.latch, h]

/-- With nothing pending the port is idle. -/
theorem State.latch_nil (h : s.pending = []) : s.latch = { s with ports := idleSample s.ports } := by
  simp [State.latch, h]

/-! ## `State.teardown` -/

/-- Everything TEARDOWN can do: wait for the outstanding write, or release at once. -/
theorem State.teardown_cases :
    (s.wrPending = true ∧ s.teardown = { s with timerEn := false, closing := true }) ∨
      (s.wrPending = false ∧ s.teardown = State.release { s with timerEn := false }) := by
  cases h : s.wrPending <;> simp [State.teardown, h]

/-! ## `State.withFetchWord`: only the pending samples change -/

@[simp] theorem State.withFetchWord_st (n w : Nat) : (s.withFetchWord n w).st = s.st := rfl
@[simp] theorem State.withFetchWord_alive (n w : Nat) : (s.withFetchWord n w).alive = s.alive := rfl
@[simp] theorem State.withFetchWord_lastCheckAt (n w : Nat) : (s.withFetchWord n w).lastCheckAt = s.lastCheckAt := rfl
@[simp] theorem State.withFetchWord_timerEn (n w : Nat) : (s.withFetchWord n w).timerEn = s.timerEn := rfl
@[simp] theorem State.withFetchWord_wrPending (n w : Nat) : (s.withFetchWord n w).wrPending = s.wrPending := rfl
@[simp] theorem State.withFetchWord_viol (n w : Nat) : (s.withFetchWord n w).viol = s.viol := rfl
@[simp] theorem State.withFetchWord_closing (n w : Nat) : (s.withFetchWord n w).closing = s.closing := rfl
@[simp] theorem State.withFetchWord_snap (n w : Nat) : (s.withFetchWord n w).snap = s.snap := rfl
@[simp] theorem State.withFetchWord_tx (n w : Nat) : (s.withFetchWord n w).tx = s.tx := rfl
@[simp] theorem State.withFetchWord_ports (n w : Nat) : (s.withFetchWord n w).ports = s.ports := rfl
@[simp] theorem State.withFetchWord_out (n w : Nat) : (s.withFetchWord n w).out = s.out := rfl
@[simp] theorem State.withFetchWord_params (n w : Nat) : (s.withFetchWord n w).params = s.params := rfl

end Sys2Proof.Machine
end

