-- ==== Sys2Proof/Laws/Exec.lean ====
section
/-! SUPPORT. Everything an event can do, said once: `exec_effect` names the one update of the state each event takes
and the condition under which it takes it, so that a proof about all events splits on `Effect` and never unfolds
`exec`. -/

namespace Sys2Proof.Machine

/-- The update an event takes from a state, with its condition. -/
inductive Effect (s : State) : Instr → State → Prop where
  | violation {i : Instr} (h : violates i s = true) : Effect s i s.violate
  | nop : Effect s .nop s.clearOut
  | opened (u : Bool) (h : s.st = .connecting) : Effect s (.openSession u .ok) (s.openOk u)
  | openFailed (u : Bool) (r : OpenResult) (e : ErrorCode) (h : s.st = .connecting) :
      Effect s (.openSession u r) (s.openFailed u e)
  | emitted (full : Bool) (h : s.st = .streaming) :
      Effect s (.packet full) (s.emit (unpack full s.ports.rxData))
  | dropped (full : Bool) (h : s.st ≠ .streaming) : Effect s (.packet full) s.clearOut
  | sendClosed {i : Instr} (c : CommandIntent) (hi : i = sendEvent c) (h : s.st ≠ .streaming) :
      Effect s i (s.reportSend false .sessionClosed)
  | issued {i : Instr} (c : CommandIntent) (hi : i = sendEvent c) (h : s.st = .streaming)
      (hp : s.wrPending = false) : Effect s i (s.issueWrite c)
  | written (ok : Bool) (hp : s.wrPending = true) (hc : s.closing = false) :
      Effect s (.writeDone ok) ({ s with wrPending := false }.reportSend ok (if ok then .none else .writeError))
  | writtenReleased (ok : Bool) (hp : s.wrPending = true) (hc : s.closing = true) :
      Effect s (.writeDone ok)
        ({ s with wrPending := false }.reportSend ok (if ok then .none else .writeError)).release
  | notProbed (a : Bool)
      (h : s.timerEn = false ∨ probeDue s.params.livenessInterval s.ports.now s.lastCheckAt = false) :
      Effect s (.tick a) s.clearOut
  | probed (h : s.timerEn = true) (hd : probeDue s.params.livenessInterval s.ports.now s.lastCheckAt = true) :
      Effect s (.tick true) (s.probe true)
  | probeLost (h : s.timerEn = true) (hd : probeDue s.params.livenessInterval s.ports.now s.lastCheckAt = true) :
      Effect s (.tick false) (s.probe false).teardown
  | closed (h : s.st = .streaming) (hc : s.closing = false) : Effect s .close s.clearOut.teardown
  | closeIgnored (h : s.st ≠ .streaming ∨ s.closing = true) : Effect s .close s.clearOut

/-- The event of an intent runs the shared SEND. -/
theorem exec_sendEvent (c : CommandIntent) (s : State) : exec (sendEvent c) s = .next (s.send c) := by
  cases c <;> rfl

/-- A SEND of a kind that is not reserved violates exactly as the second writer. -/
theorem violates_sendEvent (c : CommandIntent) (s : State) : violates (sendEvent c) s = secondWriter s := by
  cases c <;> rfl

/-- Everything a SEND can do. -/
theorem send_effect (c : CommandIntent) (s : State) : Effect s (sendEvent c) (s.send c) := by
  by_cases h : s.st = .streaming
  · cases hp : s.wrPending
    · rw [show s.send c = s.issueWrite c by simp [State.send, h, hp]]
      exact .issued c rfl h hp
    · rw [show s.send c = s.violate by simp [State.send, h, hp]]
      exact .violation (by simp [violates_sendEvent, secondWriter, h, hp])
  · rw [show s.send c = s.reportSend false .sessionClosed by simp [State.send, h]]
    exact .sendClosed c rfl h

/-- The state an event leads to is that of one of its effects. -/
theorem exec_effect {i : Instr} {s t : State} (h : exec i s = .next t) : Effect s i t := by
  cases i with
  | nop => injection h with h; exact h ▸ .nop
  | openSession u r =>
    simp only [exec, execOpenSession] at h
    split at h
    · cases r <;> injection h with h <;> subst h
      · exact .opened u ‹_›
      all_goals exact .openFailed u _ _ ‹_›
    · injection h with h
      exact h ▸ .violation (by simpa [violates])
  | openReserved r => injection h with h; exact h ▸ .violation rfl
  | packet f =>
    simp only [exec, execPacket] at h
    split at h <;> injection h with h <;> subst h
    · exact .emitted f ‹_›
    · exact .dropped f ‹_›
  | sendEnableTracking => injection h with h; exact h ▸ send_effect .enableTracking s
  | sendHeadsetPower on => injection h with h; exact h ▸ send_effect (.headsetPower on) s
  | sendVRMode on => injection h with h; exact h ▸ send_effect (.vrMode on) s
  | sendGenericOnOff id on => injection h with h; exact h ▸ send_effect (.genericOnOff id on) s
  | sendBoxPowerOff => injection h with h; exact h ▸ send_effect .boxPowerOff s
  | sendCinematicConfig a b c d e => injection h with h; exact h ▸ send_effect (.cinematicConfig a b c d e) s
  | sendReservedKind k => injection h with h; exact h ▸ .violation rfl
  | writeDone ok =>
    simp only [exec, execWriteDone] at h
    split at h
    · split at h <;> injection h with h <;> subst h
      · exact .writtenReleased ok ‹_› ‹_›
      · exact .written ok ‹_› (by simpa using ‹¬s.closing = true›)
    · injection h with h
      exact h ▸ .violation (by simpa [violates] using ‹¬s.wrPending = true›)
  | tick a =>
    simp only [exec, execTick] at h
    split at h
    · injection h with h; exact h ▸ .notProbed a (.inl ‹_›)
    · have ht : s.timerEn = true := by simpa using ‹¬s.timerEn = false›
      split at h
      · cases a <;> injection h with h <;> subst h
        · exact .probeLost ht ‹_›
        · exact .probed ht ‹_›
      · injection h with h; rename_i hd; exact h ▸ .notProbed a (.inr (by simpa using hd))
  | close =>
    simp only [exec, execClose] at h
    split at h <;> injection h with h <;> subst h
    · rename_i hc; exact .closed hc.1 hc.2
    · rename_i hc
      refine .closeIgnored ?_
      by_cases hs : s.st = .streaming
      · exact .inr (by simpa [hs] using hc)
      · exact .inl hs
  | reservedEvent => injection h with h; exact h ▸ .violation rfl

/-- Everything a step can do: reset the registers, or run the event of the sampled word. -/
theorem step_cases {s t : State} (h : step s = .next t) :
    (s.latch.ports.rst = true ∧ t = s.latch.resetRegisters) ∨
      (s.latch.ports.rst = false ∧ ∃ i, i = decode s.latch.ports.evWord ∧ Effect s.latch i t) := by
  unfold step at h
  split at h
  · injection h with h; exact .inl ⟨‹_›, h.symm⟩
  · exact .inr ⟨by simpa using ‹¬s.latch.ports.rst = true›, _, rfl, exec_effect h⟩

/-- A run of no step. -/
theorem run_zero (s : State) : Host.Core.run core 0 s = .next s := rfl

/-- A run goes on from the state its first step answers. -/
theorem run_succ {s t : State} (h : step s = .next t) (n : Nat) :
    Host.Core.run core (n + 1) s = Host.Core.run core n t := by
  have hc : core.step s = .next t := h
  simp only [Host.Core.run, hc]

end Sys2Proof.Machine
end

