-- ==== Sys2Proof/Laws/Memory.lean ====
section
/-! SUPPORT. The frame buffer: a read after a write, and that every write keeps the canonical form. -/

namespace Sys2Proof.Machine

/-- An address below every listed one reads 0. -/
theorem Memory.read_below {lo : Nat} {m : Memory} (h : Memory.rising lo m = true) {a : Nat} (ha : a < lo) :
    m.read a = 0 := by
  induction m generalizing lo with
  | nil => rfl
  | cons c m ih =>
    obtain ⟨k, v⟩ := c
    simp only [Memory.rising, Bool.and_eq_true, decide_eq_true_eq] at h
    rw [Memory.read, if_neg (by omega)]
    exact ih h.2 (by omega)

/-- A rising list rises from any lower bound. -/
theorem Memory.rising_mono {lo lo' : Nat} {m : Memory} (h : Memory.rising lo m = true) (hl : lo' ≤ lo) :
    Memory.rising lo' m = true := by
  cases m with
  | nil => rfl
  | cons c m =>
    simp only [Memory.rising, Bool.and_eq_true, decide_eq_true_eq] at h ⊢
    exact ⟨by omega, h.2⟩

/-- A byte written is read back, and every other address keeps its byte. -/
theorem Memory.read_put {lo : Nat} {m : Memory} (h : Memory.rising lo m = true) (a : Nat) (b : Byte) (x : Nat) :
    (m.put a b).read x = if x = a then b else m.read x := by
  induction m generalizing lo with
  | nil => by_cases hb : b = 0#8 <;> simp [Memory.put, Memory.read, hb]
  | cons c m ih =>
    obtain ⟨k, v⟩ := c
    simp only [Memory.rising, Bool.and_eq_true, decide_eq_true_eq] at h
    have hk : Memory.read m k = 0 := Memory.read_below h.2 (by omega)
    have hlow : a < k → Memory.read m a = 0 := fun hlt => Memory.read_below h.2 (by omega)
    have hput := ih h.2
    unfold Memory.put
    split_ifs <;> grind [Memory.read]

/-- Writing keeps the addresses rising. -/
theorem Memory.rising_put {lo : Nat} {m : Memory} (h : Memory.rising lo m = true) {a : Nat} (ha : lo ≤ a) (b : Byte) :
    Memory.rising lo (m.put a b) = true := by
  induction m generalizing lo with
  | nil => by_cases hb : b = 0#8 <;> simp [Memory.put, Memory.rising, hb, ha]
  | cons c m ih =>
    obtain ⟨k, v⟩ := c
    have h' := h
    simp only [Memory.rising, Bool.and_eq_true, decide_eq_true_eq] at h
    unfold Memory.put
    split_ifs with h1 hb h2 hb
    · exact h'
    · simp only [Memory.rising, Bool.and_eq_true, decide_eq_true_eq]
      exact ⟨ha, by omega, h.2⟩
    · exact Memory.rising_mono h.2 (by omega)
    · simp only [Memory.rising, Bool.and_eq_true, decide_eq_true_eq]
      exact ⟨ha, h2 ▸ h.2⟩
    · simp only [Memory.rising, Bool.and_eq_true, decide_eq_true_eq]
      exact ⟨h.1, ih h.2 (by omega)⟩

/-- Writing leaves only cells that were there before, and the one written where its byte is not 0. -/
theorem Memory.mem_put {m : Memory} {a : Nat} {b : Byte} {c : Host.Cell} (h : c ∈ m.put a b) :
    c ∈ m ∨ (c = (a, b) ∧ b ≠ 0#8) := by
  induction m with
  | nil => by_cases hb : b = 0#8 <;> simp_all [Memory.put]
  | cons d m ih =>
    obtain ⟨k, v⟩ := d
    unfold Memory.put at h
    split_ifs at h <;> simp_all
    all_goals tauto

/-- What the canonical form says. -/
theorem Memory.wf_iff {m : Memory} {size : Nat} :
    m.wf size = true ↔ Memory.rising 0 m = true ∧ ∀ c ∈ m, c.2 ≠ 0#8 ∧ c.1 < size := by
  simp [Memory.wf]

/-- A byte write within the buffer keeps the canonical form. -/
theorem memWrite1_wf {m : Memory} (h : m.wf Config.frameMax = true) (k : Fin Config.frameMax) (v : Byte) :
    (memWrite1 m k v).wf Config.frameMax = true := by
  rw [Memory.wf_iff] at h ⊢
  refine ⟨Memory.rising_put h.1 (Nat.zero_le _) v, fun c hc => ?_⟩
  rcases Memory.mem_put hc with hm | ⟨rfl, hv⟩
  · exact h.2 c hm
  · exact ⟨hv, k.isLt⟩

/-- Writing several bytes keeps the canonical form. -/
theorem memWriteBytes_wf {m : Memory} (h : m.wf Config.frameMax = true) (k : Nat) (bs : List Byte)
    (hk : k + bs.length ≤ Config.frameMax) : (memWriteBytes m k bs hk).wf Config.frameMax = true := by
  induction bs generalizing m k with
  | nil => exact h
  | cons b bs ih => exact ih (memWrite1_wf h _ b) _ _

/-- Each byte after writing several: the one written there, or the one that was there. -/
theorem read_memWriteBytes {m : Memory} (h : m.wf Config.frameMax = true) (k : Nat) (bs : List Byte)
    (hk : k + bs.length ≤ Config.frameMax) (x : Nat) :
    (memWriteBytes m k bs hk).read x = if k ≤ x ∧ x < k + bs.length then bs.getD (x - k) 0 else m.read x := by
  induction bs generalizing m k with
  | nil => rw [if_neg (by simp)]; rfl
  | cons b bs ih =>
    have hr := Memory.read_put (Memory.wf_iff.mp h).1 k b x
    have := ih (memWrite1_wf h ⟨k, by simp only [List.length_cons] at hk; omega⟩ b) (k + 1)
      (by simp only [List.length_cons] at hk; omega)
    rw [memWriteBytes, this]
    simp only [memWrite1, hr, List.length_cons]
    by_cases hx : x = k
    · subst hx; simp
    · by_cases hr2 : k + 1 ≤ x ∧ x < k + 1 + bs.length
      · rw [if_pos hr2, if_pos (by omega), show x - k = (x - (k + 1)) + 1 by omega, List.getD_cons_succ]
      · rw [if_neg hr2, if_neg hx, if_neg (by omega)]

/-- The bytes from an address on are the bytes read there one by one. -/
theorem Memory.readBytes_length (m : Memory) (k n : Nat) : (m.readBytes k n).length = n := by
  induction n generalizing k with
  | zero => rfl
  | succ n ih => simp [Memory.readBytes, ih]

theorem Memory.readBytes_getD (m : Memory) (k n i : Nat) (hi : i < n) :
    (m.readBytes k n).getD i 0 = m.read (k + i) := by
  induction n generalizing k i with
  | zero => omega
  | succ n ih =>
    cases i with
    | zero => simp [Memory.readBytes]
    | succ i =>
      rw [Memory.readBytes, List.getD_cons_succ, ih _ _ (by omega)]
      congr 1; omega

end Sys2Proof.Machine
end

