-- ==== Sys2Proof/Laws/PerInstr.lean ====
section
/-! SUPPORT. Facts about every event as syntax, one lemma a constructor: a well-formed event is encoded within its own
row of spec/opcode_table.json. -/

namespace Sys2Proof.Laws

/-- Under a mask that is the word of some fields, an encoded event keeps those fields only. -/
theorem encode_and_mask {i : Instr} {g : Fields} (h : rowMask i = wordOf g) :
    encode i &&& rowMask i = wordOf ((encodeFields i).and g) := by
  rw [h, and_wordOf, encode, fieldsOf_wordOf]

theorem byte_and_zero (x : Byte) : x &&& 0 = 0 := by simp

/-- The event's word has its row's fixed bits. -/
def EncodesInRow.Statement (i : Instr) : Prop :=
  i.wf = true → encode i &&& rowMask i = rowMatch i

/-- The mask of the SEND rows. -/
theorem mask_send : (0x77 : EventWord) = wordOf { Fields.zero with ev := 7, k := 7 } := by decide

theorem EncodesInRow.nop : EncodesInRow.Statement .nop := fun _ => by decide

theorem EncodesInRow.openSession (useAlt : Bool) (res : Machine.OpenResult) :
    EncodesInRow.Statement (.openSession useAlt res) := fun _ => by
  revert useAlt; cases res <;> decide

theorem EncodesInRow.openReserved (res : BitVec 3) : EncodesInRow.Statement (.openReserved res) := by
  unfold EncodesInRow.Statement; revert res; decide

theorem EncodesInRow.packet (full : Bool) : EncodesInRow.Statement (.packet full) := fun _ => by
  revert full; decide

theorem EncodesInRow.sendEnableTracking : EncodesInRow.Statement .sendEnableTracking := fun _ => by decide

theorem EncodesInRow.sendHeadsetPower (on : Bool) : EncodesInRow.Statement (.sendHeadsetPower on) := fun _ => by
  revert on; decide

theorem EncodesInRow.sendVRMode (enter : Bool) : EncodesInRow.Statement (.sendVRMode enter) := fun _ => by
  revert enter; decide

theorem EncodesInRow.sendGenericOnOff (id : Byte) (on : Bool) :
    EncodesInRow.Statement (.sendGenericOnOff id on) := fun _ => by
  rw [encode_and_mask (i := .sendGenericOnOff id on) mask_send]
  simp only [encodeFields, Fields.and, Fields.zero, byte_and_zero, Bool.and_false]
  exact (by decide : wordOf { Fields.zero with ev := 3, k := 3 } = 0x33)

theorem EncodesInRow.sendBoxPowerOff : EncodesInRow.Statement .sendBoxPowerOff := fun _ => by decide

theorem EncodesInRow.sendCinematicConfig (screenDistance screenSize brightness micVolume : Byte) (flag : Bool) :
    EncodesInRow.Statement (.sendCinematicConfig screenDistance screenSize brightness micVolume flag) := fun _ => by
  rw [encode_and_mask (i := .sendCinematicConfig screenDistance screenSize brightness micVolume flag) mask_send]
  simp only [encodeFields, Fields.and, Fields.zero, byte_and_zero, Bool.and_false]
  exact (by decide : wordOf { Fields.zero with ev := 3, k := 5 } = 0x53)

theorem EncodesInRow.sendReservedKind (k : BitVec 3) : EncodesInRow.Statement (.sendReservedKind k) := by
  unfold EncodesInRow.Statement; revert k; decide

theorem EncodesInRow.writeDone (writeOk : Bool) : EncodesInRow.Statement (.writeDone writeOk) := fun _ => by
  revert writeOk; decide

theorem EncodesInRow.tick (isAlive : Bool) : EncodesInRow.Statement (.tick isAlive) := fun _ => by
  revert isAlive; decide

theorem EncodesInRow.close : EncodesInRow.Statement .close := fun _ => by decide

theorem EncodesInRow.reservedEvent : EncodesInRow.Statement .reservedEvent := fun _ => by decide

end Sys2Proof.Laws
end

