-- ==== Sys2Proof/Laws/Unpack.lean ====
section
/-! SUPPORT. UNPACK with every field written out over the bytes of the report, so that no later proof unfolds the
extractors. -/

namespace Sys2Proof.Machine

/-- A short report. -/
theorem unpack_short (rx : Memory) : unpack false rx = Snapshot.zero := rfl

/-- A full report, field by field. -/
theorem unpack_full (rx : Memory) : unpack true rx =
    { buttons := rx.read 0, volume := rx.read 2
      worn := (rx.read 8).getLsbD 0, displayActive := !(rx.read 8).getLsbD 1
      muted := (rx.read 8).getLsbD 3, earphonesConnected := (rx.read 8).getLsbD 4
      imuSampleA :=
        { sequence := rx.read 19 ++ rx.read 18, gyroYaw := rx.read 21 ++ rx.read 20
          gyroPitch := rx.read 23 ++ rx.read 22, gyroRoll := rx.read 25 ++ rx.read 24
          motionX := asr (rx.read 27 ++ rx.read 26) 4, motionY := asr (rx.read 29 ++ rx.read 28) 4
          motionZ := asr (rx.read 31 ++ rx.read 30) 4 }
      imuSampleB :=
        { sequence := rx.read 35 ++ rx.read 34, gyroYaw := rx.read 37 ++ rx.read 36
          gyroPitch := rx.read 39 ++ rx.read 38, gyroRoll := rx.read 41 ++ rx.read 40
          motionX := asr (rx.read 43 ++ rx.read 42) 4, motionY := asr (rx.read 45 ++ rx.read 44) 4
          motionZ := asr (rx.read 47 ++ rx.read 46) 4 }
      calibrationStatus := rx.read 48, ready := rx.read 49
      debugBytes :=
        { a := rx.read 50, b := rx.read 51, c := rx.read 52, d := rx.read 58
          e := rx.read 59, f := rx.read 60, g := rx.read 61, h := rx.read 62 }
      voltageValue := rx.read 53, voltageReference := rx.read 54
      irSensor := rx.read 56 ++ rx.read 55, packetSequence := rx.read 63, orientationValid := false } :=
  rfl

end Sys2Proof.Machine
end

