-- ==== Sys2Proof/Tests/Slice0.lean ====
section
/-! SUPPORT. Tests with expected results from 95_test_vectors.md, the check of well-formedness, and for each
obligation with hypotheses a concrete case that meets them. -/

namespace Sys2Proof.Tests

open Sys2Proof Sys2Proof.Machine

/-! ## The named states of 95_test_vectors.md section 4 -/

/-- S0: after `@7 OPEN OK` from reset. -/
def s0 : State := { State.reset with st := .streaming, alive := true, timerEn := true, lastCheckAt := 7 }

/-- S1: S0 with a write outstanding. -/
def s1 : State := { s0 with wrPending := true }

/-- S2: S1 after CLOSE. -/
def s2 : State := { s1 with timerEn := false, closing := true }

/-- D: S0 after CLOSE. -/
def d0 : State := { s0 with st := .disconnected, alive := false, timerEn := false }

/-- A state at time `now`. -/
def at_ (now : Time) (s : State) : State := { s with ports := { s.ports with now := now } }

/-- A state with a report on `rx_data`. -/
def withReport (rx : Memory) (s : State) : State := { s with ports := { s.ports with rxData := rx } }

/-- A sample that carries an event word and nothing else. -/
def ev (w : EventWord) : PortSample := { PortSample.rest with evWord := w }

/-- A state with samples to come. -/
def feed (ps : List PortSample) (s : State) : State := { s with pending := ps }

/-- A sample that resets; its event word would open a session. -/
def resetSample : PortSample := { ev 0x01 with rst := true }

/-- The registers and outputs of a next state. -/
def seen : Host.Outcome State Fault Refusal → Option (Regs × Output)
  | .next t => some (t.regs, t.out)
  | .fault _ => none
  | .refused _ => none

/-- The outputs of a step that hands over a write. -/
def wrote (bs : List Byte) : Output := { Output.empty with trWrite := some { bytes := bs, timeout := 1000 } }

/-- T1 of vector V-U1. -/
def t1 : Memory := reportBytes 0
  ([0x0A, 0x77, 0x80, 0x00, 0x00, 0x00, 0x00, 0x00, 0x19, 0x00, 0x00, 0x00, 0x00, 0x00, 0x00, 0x00,
    0x00, 0x00, 0x34, 0x12, 0x01, 0x00, 0xFF, 0xFF, 0x00, 0x80, 0x10, 0x00, 0xF0, 0xFF, 0xFF, 0x7F] ++
   [0x00, 0x00, 0xFF, 0xFF, 0xFF, 0x7F, 0x00, 0x01, 0x00, 0xFF, 0x00, 0x80, 0xFF, 0xFF, 0x0F, 0x00,
    0x04, 0x01, 0xA1, 0xB2, 0xC3, 0x7C, 0x80, 0xFF, 0x03, 0x55, 0xD4, 0xE5, 0xF6, 0x07, 0x18, 0x2A])

/-- T2 of vector U2.1: T1 with every unread byte FF and the unread status bits set. -/
def t2 : Memory := reportBytes 0
  ([0x0A, 0xFF, 0x80, 0xFF, 0xFF, 0xFF, 0xFF, 0xFF, 0xFD, 0xFF, 0xFF, 0xFF, 0xFF, 0xFF, 0xFF, 0xFF,
    0xFF, 0xFF, 0x34, 0x12, 0x01, 0x00, 0xFF, 0xFF, 0x00, 0x80, 0x10, 0x00, 0xF0, 0xFF, 0xFF, 0x7F] ++
   [0xFF, 0xFF, 0xFF, 0xFF, 0xFF, 0x7F, 0x00, 0x01, 0x00, 0xFF, 0x00, 0x80, 0xFF, 0xFF, 0x0F, 0x00,
    0x04, 0x01, 0xA1, 0xB2, 0xC3, 0x7C, 0x80, 0xFF, 0x03, 0xFF, 0xD4, 0xE5, 0xF6, 0x07, 0x18, 0x2A])

/-! ## Well-formedness: an ill-formed event for each check -/

theorem test_wf_refuses_open_result_3 : (Instr.openReserved 3).wf = false := by decide
theorem test_wf_refuses_kind_5 : (Instr.sendReservedKind 5).wf = false := by decide

/-! ## Decoding: words written out from 30_encoding.md R80 to R89, one of each row -/

theorem test_decode_nop : decode 0b000 = .nop := by decide
theorem test_decode_open : decode 0b0110001 = .openSession false .deviceMismatch := by decide
theorem test_decode_open_unused_bits : decode 0xFFFFFFFFFFFFFF81 = .openSession false .ok := by decide
theorem test_decode_open_reserved : decode 0b1110001 = .openReserved 7 := by decide
theorem test_decode_packet : decode 0b1010 = .packet true := by decide
theorem test_decode_enable_tracking : decode 0b00000011 = .sendEnableTracking := by decide
theorem test_decode_headset_power : decode 0xFFFFFFFFFFFFFF9B = .sendHeadsetPower true := by decide
theorem test_decode_vr_mode : decode 0b00100011 = .sendVRMode false := by decide
theorem test_decode_generic : decode 0xFFB3 = .sendGenericOnOff 0xFF true := by decide
theorem test_decode_box_power_off : decode 0xC3 = .sendBoxPowerOff := by decide
theorem test_decode_cinematic : decode 0x0001FFFF00FF0053 = .sendCinematicConfig 0xFF 0x00 0xFF 0xFF true := by decide
theorem test_decode_reserved_kind : decode 0b01110011 = .sendReservedKind 7 := by decide
theorem test_decode_write_done : decode 0b0100 = .writeDone false := by decide
theorem test_decode_tick : decode 0b1101 = .tick true := by decide
theorem test_decode_close : decode 0b110 = .close := by decide
theorem test_decode_reserved_event : decode 0b111 = .reservedEvent := by decide
theorem test_encode_cinematic : encode (.sendCinematicConfig 0x32 0x28 0x20 0x05 false) = 0x0000052028320053 := by decide
theorem test_table_word : decodeTableWord 64 0x93 = some (.sendHeadsetPower true) := by decide

/-! ## Lines of test programs: 95_test_vectors.md P2 to P5 -/

theorem test_parse_time : parseLine ["@4294967294", "OPEN", "OK", "ALT"] =
    some { time := some 0xFFFFFFFE, event := .openSession true .ok, report := [] } := by decide
theorem test_parse_cinematic : (parseLine ["SEND", "CINEMATIC", "50", "40", "32", "5", "0"]).map (encode ·.event) =
    some 0x0000052028320053 := by decide
theorem test_parse_generic : (parseLine ["SEND", "GENERIC", "0x15", "ON"]).map (encode ·.event) = some 0x15B3 := by decide
theorem test_script_keeps_the_time : (scriptSamples 0 [⟨none, .nop, []⟩, ⟨some 7, .close, []⟩, ⟨none, .nop, []⟩]).map
    (·.now) = [0, 7, 7] := by decide

/-! ## UNPACK: vectors V-U1, V-U2 and V-U4 -/

theorem test_unpack_t1_flags_and_bytes :
    ((unpack true t1).buttonSet, (unpack true t1).volume, (unpack true t1).worn, (unpack true t1).displayActive,
      (unpack true t1).muted, (unpack true t1).earphonesConnected) =
    ([.volumeUp, .mute], 128, true, true, true, true) := by decide
theorem test_unpack_t1_sample_a : (unpack true t1).imuSampleA =
    { sequence := 4660, gyroYaw := 1, gyroPitch := -1, gyroRoll := -32768, motionX := 1, motionY := -1
      motionZ := 2047 } := by decide
theorem test_unpack_t1_sample_b : (unpack true t1).imuSampleB =
    { sequence := 65535, gyroYaw := 32767, gyroPitch := 256, gyroRoll := -256, motionX := -2048, motionY := -1
      motionZ := 0 } := by decide
theorem test_unpack_t1_trailer :
    ((unpack true t1).calibrationStatus, (unpack true t1).ready, (unpack true t1).voltageValue,
      (unpack true t1).voltageReference, (unpack true t1).irSensor, (unpack true t1).packetSequence) =
    (4, 1, 0x7C, 0x80, 1023, 42) := by decide
theorem test_unpack_t1_debug_bytes : (unpack true t1).debugBytes =
    ⟨0xA1, 0xB2, 0xC3, 0xD4, 0xE5, 0xF6, 0x07, 0x18⟩ ∧ (unpack true t1).orientationValid = false := by decide
theorem test_unpack_ignores_unread_bytes : unpack true t2 = unpack true t1 := by decide
theorem test_unpack_short : unpack false t1 = Snapshot.zero := by decide
theorem test_asr_rounds_down : (asr 0xFFEF 4, asr 0xFFF1 4, asr 0x8010 4, asr 0xEDCC 4) =
    ((0xFFFE : Half), (0xFFFF : Half), (0xF801 : Half), (0xFEDC : Half)) := by decide

/-! ## The events: vectors F, at most two an event -/

theorem test_nop : seen (exec .nop s2) = some (s2.regs, Output.empty) := by decide
theorem test_open_ok : seen (exec (.openSession true .ok) (at_ 7 State.reset)) =
    some (s0.regs, { Output.empty with trOpen := some true, trSubscribe := true, openDone := some .ok }) := by decide
theorem test_open_busy : seen (exec (.openSession false .deviceBusy) (at_ 7 State.reset)) =
    some (State.reset.regs, { Output.empty with trOpen := some false, openDone := some (.err .deviceBusy) }) := by decide
theorem test_open_reserved : seen (exec (.openReserved 4) State.reset) =
    some ({ State.reset.regs with viol := true }, Output.empty) := by decide
theorem test_packet_streaming : seen (exec (.packet true) (withReport t1 s2)) =
    some ({ s2.regs with snap := unpack true t1 }, { Output.empty with snapEvt := some (unpack true t1) }) := by decide
theorem test_packet_dropped : seen (exec (.packet true) (withReport t1 d0)) = some (d0.regs, Output.empty) := by decide
theorem test_send_enable_tracking : seen (exec .sendEnableTracking s0) =
    some (s1.regs, wrote [0x11, 0x00, 0xAA, 0x08, 0x00, 0xFF, 0xFF, 0xFF, 0x00, 0x00, 0x00, 0x00]) := by decide
theorem test_send_enable_tracking_closed : seen (exec .sendEnableTracking d0) =
    some (d0.regs, { Output.empty with sendDone := some ⟨false, .sessionClosed⟩ }) := by decide
theorem test_send_headset_power : seen (exec (.sendHeadsetPower true) s0) =
    some (s1.regs, wrote [0x17, 0x00, 0xAA, 0x04, 0x01, 0x00, 0x00, 0x00]) := by decide
theorem test_send_vr_mode_while_closing : seen (exec (.sendVRMode false) s2) =
    some ({ s2.regs with viol := true }, Output.empty) := by decide
theorem test_send_vr_mode : seen (exec (.sendVRMode false) s0) =
    some (s1.regs, wrote [0x23, 0x00, 0xAA, 0x04, 0x00, 0x00, 0x00, 0x00]) := by decide
theorem test_send_generic : seen (exec (.sendGenericOnOff 0x00 false) s0) =
    some (s1.regs, wrote [0x00, 0x00, 0xAA, 0x04, 0x00, 0x00, 0x00, 0x00]) := by decide
theorem test_send_box_power_off : seen (exec .sendBoxPowerOff s0) =
    some (s1.regs, wrote [0x13, 0x00, 0xAA, 0x04, 0x01, 0x00, 0x00, 0x00]) := by decide
theorem test_send_box_power_off_second_writer : seen (exec .sendBoxPowerOff s1) =
    some ({ s1.regs with viol := true }, Output.empty) := by decide
theorem test_send_cinematic : seen (exec (.sendCinematicConfig 0x32 0x28 0x20 0x05 false) s0) =
    some (s1.regs, wrote [0x21, 0x00, 0xAA, 0x10, 0x00, 0x28, 0x32, 0x00, 0x00, 0x00, 0x00, 0x00, 0x00, 0x00, 0x20, 0x05, 0x00, 0x00,
        0x01, 0x00]) := by decide
theorem test_send_cinematic_flag : packFrame (.cinematicConfig 0xFF 0x00 0xFF 0xFF true) =
    [0x21, 0x00, 0xAA, 0x10, 0x00, 0x00, 0xFF, 0x00, 0x00, 0x00, 0x00, 0x00, 0x00, 0x00, 0xFF, 0xFF, 0x00, 0x00, 0x00,
      0x00] := by decide
theorem test_send_reserved_kind : seen (exec (.sendReservedKind 6) d0) =
    some ({ d0.regs with viol := true }, Output.empty) := by decide
theorem test_write_done_fail : seen (exec (.writeDone false) s1) =
    some (s0.regs, { Output.empty with sendDone := some ⟨false, .writeError⟩ }) := by decide
theorem test_write_done_releases : seen (exec (.writeDone true) s2) =
    some (d0.regs, { Output.empty with sendDone := some ⟨true, .none⟩, trClose := true, removedEvt := true }) := by decide
theorem test_tick_wraps : seen (exec (.tick false) (at_ 6 s0)) =
    some ({ d0.regs with lastCheckAt := 6 },
      { Output.empty with trAliveQuery := true, trClose := true, removedEvt := true }) := by decide
theorem test_tick_not_due : seen (exec (.tick false) (at_ 8 s0)) = some (s0.regs, Output.empty) := by decide
theorem test_close_releases : seen (exec .close s0) =
    some (d0.regs, { Output.empty with trClose := true, removedEvt := true }) := by decide
theorem test_close_waits_for_the_write : seen (exec .close s1) = some (s2.regs, Output.empty) := by decide
theorem test_reserved_event : seen (exec .reservedEvent s1) =
    some ({ s1.regs with viol := true }, Output.empty) := by decide

/-! ## The step: vectors RS1 and F19, and the fetched event -/

theorem test_reset_step : seen (step (feed [resetSample] s1)) = some (State.reset.regs, Output.empty) := by decide
theorem test_step_runs_fetched_word : seen (step (State.reset.withFetchWord 64 0x93)) =
    some (State.reset.regs, { Output.empty with sendDone := some ⟨false, .sessionClosed⟩ }) := by decide
/-- S1 with a deadline of 3 time units and the write's failure reported at `now`. -/
def s1Reported (now : Time) : State :=
  feed [{ ev 0x04 with now := now }] { s1 with params := { livenessInterval := 2, writeTimeout := 3 } }
theorem test_write_deadline_kept : dutiesKept 1 (some 101) (s1Reported 104) = true := by decide
theorem test_write_deadline_missed : dutiesKept 1 (some 101) (s1Reported 105) = false := by decide
theorem test_reset_frame_buffer_wf : State.reset.tx.wf Config.frameMax = true := by decide

/-! ## Witnesses: a case that meets the hypotheses of each obligation -/

/-- The register invariants hold in S0, S1, S2 and D. -/
theorem inv_s0 : s0.Inv := ⟨(fun h => by cases h), (fun h => by cases h), (fun h => by cases h), fun _ _ => ⟨rfl, rfl⟩⟩
theorem inv_s1 : s1.Inv := ⟨(fun h => by cases h), (fun h => by cases h), (fun h => by cases h), fun _ _ => ⟨rfl, rfl⟩⟩
theorem inv_s2 : s2.Inv := ⟨(fun h => by cases h), (fun h => by cases h), fun _ => ⟨rfl, rfl, rfl⟩, (fun _ h => by cases h)⟩
theorem inv_d0 : d0.Inv := ⟨(fun h => by cases h), fun _ => ⟨rfl, rfl, rfl, rfl⟩, (fun h => by cases h), (fun h => by cases h)⟩

theorem witness_DecodeEncodeRoundTrip : (Instr.openReserved 4).wf = true ∧ (Instr.openReserved 7).wf = true ∧
    (Instr.sendReservedKind 6).wf = true ∧ (Instr.sendReservedKind 7).wf = true ∧
    (Instr.sendCinematicConfig 0xFF 0 0xFF 0 true).wf = true := by decide
theorem witness_UnusedBitsAreIgnored : (feed [ev 0x93] s0).pending = ev 0x93 :: [] ∧
    0xFFFFFFFFFFFFFF9B &&& usedMask (decode (ev 0x93).evWord) =
      (ev 0x93).evWord &&& usedMask (decode (ev 0x93).evWord) := by decide
theorem witness_StepRunsTheDecodedEvent : (feed [ev 0x06] s0).pending = ev 0x06 :: [] ∧ (ev 0x06).rst = false := by decide
theorem witness_StepWithNothingPendingIsIdle : s0.pending = [] := by decide
theorem witness_ResetGivesEveryRegisterItsValue : (feed [resetSample] s1).pending = resetSample :: [] ∧
    resetSample.rst = true := by decide
theorem witness_EventsKeepInputsAndParameters : exec .close (feed [ev 0x06] s0) =
    .next (feed [ev 0x06] s0).clearOut.teardown := rfl
theorem witness_PortsAreReadOnlyByTheirEvents :
    (∀ full, Instr.tick true = .packet full → t1 = s0.ports.rxData) ∧
    (∀ u r, Instr.tick true = .openSession u r → (0 : Time) = s0.ports.now) ∧
    (∀ a, Instr.tick true = .tick a → (0 : Time) = s0.ports.now) :=
  ⟨(fun _ h => by cases h), (fun _ _ h => by cases h), fun _ _ => rfl⟩
theorem witness_OpenFollowsItsRule : s0.st ≠ .connecting ∧ d0.st ≠ .connecting ∧ State.reset.st = .connecting := by decide
theorem witness_CloseFollowsItsRule : (s0.st = .streaming ∧ s0.closing = false ∧ s0.wrPending = false) ∧
    (s1.st = .streaming ∧ s1.closing = false ∧ s1.wrPending = true) ∧
    (State.reset.st ≠ .streaming ∨ State.reset.closing = true) ∧ (s2.st ≠ .streaming ∨ s2.closing = true) := by decide
theorem witness_LifecycleEventsFrame : exec .nop s0 = .next s0.clearOut ∧
    exec (.openSession true .ok) State.reset = .next (State.reset.openOk true) ∧
    exec (.openReserved 4) s0 = .next s0.violate ∧ exec .close s0 = .next s0.clearOut.teardown ∧
    exec .reservedEvent s0 = .next s0.violate := ⟨rfl, rfl, rfl, rfl, rfl⟩
theorem witness_PacketFollowsItsRule : s2.st = .streaming ∧ State.reset.st ≠ .streaming ∧ d0.st ≠ .streaming := by decide
theorem witness_PacketFrame : exec (.packet false) s0 = .next (s0.emit Snapshot.zero) ∧
    exec (.packet true) d0 = .next d0.clearOut := ⟨rfl, rfl⟩
theorem witness_SnapshotFieldsFollowTheReportLayout : unpack true t1 = unpack true t1 ∧
    leNat t1 55 = 1023 := by decide
theorem witness_ArithmeticShiftRoundsDown : 0 ≤ 15 ∧ 4 ≤ 15 ∧ 15 ≤ 15 := by decide
theorem witness_StatusBitTogglesOneField : ∀ i ∈ [0, 1, 2, 3, 4, 5, 6, 7],
    (∀ k, k ≠ 8 → Memory.read [(8, BitVec.twoPow 8 i)] k = Memory.read [] k) ∧
    Memory.read [(8, BitVec.twoPow 8 i)] 8 = Memory.read [] 8 ^^^ BitVec.twoPow 8 i := by
  intro i _
  exact ⟨fun k hk => by simp [Memory.read, hk], by simp [Memory.read]⟩
theorem witness_UnreadReportBitsReachNoOutput :
    (∀ k, readByte k → Memory.read [] k = Memory.read [(1, 0x77), (8, 0xE4), (57, 0x55)] k) ∧
    Memory.read [] 8 &&& 0x1B = Memory.read [(1, 0x77), (8, 0xE4), (57, 0x55)] 8 &&& 0x1B := by
  refine ⟨fun k hk => ?_, by decide⟩
  unfold readByte at hk
  simp only [Memory.read]
  rw [if_neg (by omega), if_neg (by omega), if_neg (by omega)]
theorem witness_SendFollowsItsRule : (State.reset.st ≠ .streaming ∧ d0.st ≠ .streaming) ∧
    (s1.st = .streaming ∧ s1.wrPending = true) ∧ (s0.st = .streaming ∧ s0.wrPending = false) := by decide
theorem witness_frames_of_accepted_sends : s0.st = .streaming ∧ s0.wrPending = false := by decide
/-- S0 and S1 with the samples of one `sendCommand` to come. -/
def s0Command : State := feed (eventSamples s0.ports [.sendBoxPowerOff, .writeDone true]) s0
def s1Command : State := feed (eventSamples s1.ports [.sendBoxPowerOff]) s1
def d0Command : State := feed (eventSamples d0.ports [.sendBoxPowerOff]) d0

theorem witness_SendCommandReturnsItsResult :
    (s0Command.closing = false ∧ s0Command.cmdReady = true ∧ s0Command.pending =
      eventSamples s0Command.ports ((SurfaceOp.sendCommand .boxPowerOff true).events s0Command)) ∧
    (s1Command.closing = false ∧ s1Command.cmdReady = false ∧ s1Command.pending =
      eventSamples s1Command.ports ((SurfaceOp.sendCommand .boxPowerOff true).events s1Command)) ∧
    (d0Command.closing = false ∧ d0Command.cmdReady = false ∧ d0Command.st ≠ .streaming ∧ d0Command.pending =
      eventSamples d0Command.ports ((SurfaceOp.sendCommand .boxPowerOff true).events d0Command)) := by decide
theorem witness_WriteDoneFollowsItsRule : d0.wrPending = false ∧ (s1.wrPending = true ∧ s1.closing = false) ∧
    (s2.wrPending = true ∧ s2.closing = true) := by decide
theorem witness_SendFrame : exec (sendEvent .boxPowerOff) s0 = .next (s0.issueWrite .boxPowerOff) ∧
    exec (sendEvent .boxPowerOff) s1 = .next s1.violate ∧ s0.tx.wf Config.frameMax = true := ⟨rfl, rfl, by decide⟩
theorem witness_WriteDoneAndTickFrame :
    exec (.writeDone true) s1 = .next ({ s1 with wrPending := false }.reportSend true .none) ∧
    exec (.tick true) (at_ 9 s0) = .next ((at_ 9 s0).probe true) ∧
    exec (.sendReservedKind 6) s0 = .next s0.violate ∧ s1.wrPending = true ∧ s1.closing = false :=
  ⟨rfl, rfl, rfl, rfl, rfl⟩
theorem witness_TickFollowsItsRule :
    State.reset.timerEn = false ∧
    (s0.timerEn = true ∧ ((at_ 8 s0).ports.now - (at_ 8 s0).lastCheckAt).toNat < s0.params.livenessInterval) ∧
    (s0.timerEn = true ∧ s0.params.livenessInterval ≤ ((at_ 9 s0).ports.now - (at_ 9 s0).lastCheckAt).toNat) ∧
    (s0.params.livenessInterval ≤ ((at_ 6 s0).ports.now - (at_ 6 s0).lastCheckAt).toNat ∧ s0.wrPending = false) ∧
    (s1.timerEn = true ∧ s1.wrPending = true ∧
      s1.params.livenessInterval ≤ ((at_ 9 s1).ports.now - (at_ 9 s1).lastCheckAt).toNat) := by decide
theorem witness_ViolationBitRule : exec .reservedEvent s0 = .next s0.violate ∧ violates .reservedEvent s0 = true ∧
    exec .nop s0 = .next s0.clearOut ∧ violates .nop s0 = false := ⟨rfl, rfl, rfl, rfl⟩
theorem witness_StepKeepsTheRegisterInvariants : s0.Inv ∧
    step s0 = .next ({ s0 with ports := idleSample s0.ports } : State).clearOut := ⟨inv_s0, rfl⟩
theorem witness_StepKeepsTheFrameBufferForm : s0.FrameInv ∧
    step s0 = .next ({ s0 with ports := idleSample s0.ports } : State).clearOut :=
  ⟨⟨by decide, fun _ _ => rfl⟩, rfl⟩
theorem witness_DisconnectedIsTerminal : d0.Inv ∧ d0.st = .disconnected ∧ exec .close d0 = .next d0.clearOut :=
  ⟨inv_d0, rfl, rfl⟩
theorem witness_RemovalIsNotifiedAtMostOnce : s0.Inv ∧ (feed [ev 0x06, ev 0x06] s0).noReset = true ∧
    removals 3 (feed [ev 0x06, ev 0x06] s0) = 1 := ⟨inv_s0, by decide, by decide⟩
theorem witness_NothingFollowsDisconnected : d0.Inv ∧ d0.st = .disconnected ∧ d0.noReset = true ∧
    Host.Core.run core 1 d0 = .next ({ d0 with ports := idleSample d0.ports } : State).clearOut :=
  ⟨inv_d0, rfl, rfl, rfl⟩
theorem witness_RemovalMarksLeavingStreaming : s0.Inv ∧ exec .close s0 = .next s0.clearOut.teardown := ⟨inv_s0, rfl⟩
theorem witness_AtMostOneWriteIsOutstanding : exec .sendBoxPowerOff s0 = .next (s0.issueWrite .boxPowerOff) ∧
    (s0.issueWrite .boxPowerOff).out.trWrite ≠ none ∧ exec .close s1 = .next s1.clearOut.teardown ∧
    s1.wrPending = true ∧ ∀ ok, Instr.close ≠ .writeDone ok := ⟨rfl, by decide, rfl, rfl, by decide⟩
theorem witness_NoProbeAfterTeardownBegins : s1.Inv ∧
    exec (.tick false) (at_ 9 s1) = .next ((at_ 9 s1).probe false).teardown ∧
    ((at_ 9 s1).probe false).teardown.out.trAliveQuery = true ∧
    ((at_ 9 s1).probe false).teardown.closing = true := ⟨inv_s1, rfl, rfl, rfl⟩
theorem witness_DeferredReleaseCompletes : (feed [ev 0x06, ev 0x0C] s1).pending = ev 0x06 :: ev 0x0C :: [] ∧
    (ev 0x06).rst = false ∧ (ev 0x0C).rst = false ∧ decode (ev 0x06).evWord = .close ∧
    decode (ev 0x0C).evWord = .writeDone true ∧ s1.st = .streaming ∧ s1.closing = false ∧ s1.wrPending = true := by decide
theorem witness_OutputsComeInOrder : State.reset.st = .connecting ∧ (at_ 9 s0).timerEn = true ∧
    (at_ 9 s0).wrPending = false ∧
    (at_ 9 s0).params.livenessInterval ≤ ((at_ 9 s0).ports.now - (at_ 9 s0).lastCheckAt).toNat := by decide

end Sys2Proof.Tests
end

/-! # Proofs: the arithmetic shift of 00_scope.md R9 -/

namespace Sys2Proof.Machine

/-- The field of bits 15 down to `n` keeps the sign bit of the value. -/
theorem msb_upper_bits (v : Half) {n : Nat} (hn : n ≤ 15) : (v.extractLsb' n (16 - n)).msb = v.msb := by
  have top : n + (16 - n) = 16 := by omega
  have nonempty : 0 < 16 - n := by omega
  simp [BitVec.msb_extractLsb', BitVec.msb_eq_getMsbD_zero v, top, nonempty]

/-- R9, bit by bit: a result bit below `16 - n` is a bit of the value, one from there on is its sign. -/
theorem asr_eq_signExtend (v : Half) {n : Nat} (hn : n ≤ 15) :
    asr v n = (v.extractLsb' n (16 - n)).signExtend 16 := by
  ext i hi
  rw [asr, BitVec.getElem_sshiftRight, BitVec.getElem_signExtend, msb_upper_bits v hn]
  by_cases copied : i < 16 - n
  · have inside : n + i < 16 := by omega
    simp [copied, inside]
  · have outside : ¬ n + i < 16 := by omega
    simp [copied, outside]

/-- R9 as integers: the shift is division rounding toward minus infinity, at every shift amount. -/
theorem toInt_asr (v : Half) (n : Nat) : (asr v n).toInt = Int.fdiv v.toInt (2 ^ n) :=
  calc (asr v n).toInt
    _ = v.toInt >>> n := BitVec.toInt_sshiftRight
    _ = v.toInt / 2 ^ n := by rw [Int.shiftRight_eq_div_pow]; norm_cast
    _ = Int.fdiv v.toInt (2 ^ n) := (Int.fdiv_eq_ediv_of_nonneg _ (by positivity)).symm

/-- Settles O22: the two readings of R9, by bits and by signed value. -/
theorem arithmeticShiftRoundsDown : Obligations.ArithmeticShiftRoundsDown :=
  fun v n hn => ⟨asr_eq_signExtend v hn, toInt_asr v n⟩

end Sys2Proof.Machine

/-! # Proofs: PACK's frame is its wire command serialised (10_state.md R33, 41_packer.md R140) -/

namespace Sys2Proof.Machine

/-- A buffer that holds a list's bytes from an address on reads that list there. -/
theorem Memory.readBytes_eq_of_read {m : Memory} {k : Nat} {bytes : List Byte}
    (holds : ∀ i < bytes.length, m.read (k + i) = bytes.getD i 0) : m.readBytes k bytes.length = bytes := by
  refine List.ext_getElem (m.readBytes_length k _) fun i hi hb => ?_
  rw [← List.getD_eq_getElem _ 0 hi, ← List.getD_eq_getElem _ 0 hb, m.readBytes_getD k _ i hb, holds i hb]

/-- The serialised command is the frame header followed by the kind's payload (R141). -/
theorem serialise_wireCommand (c : CommandIntent) :
    (wireCommand c).serialise = header (kindTable c).1 (kindTable c).2.val.length ++ (kindTable c).2.val := rfl

@[simp] theorem header_length (id : Byte) (n : Nat) : (header id n).length = 4 := rfl

theorem length_serialise_wireCommand (c : CommandIntent) : (wireCommand c).serialise.length = packLen c := by
  rw [serialise_wireCommand, List.length_append, header_length, packLen, Nat.add_comm]

/-- R140 and R52: each byte of the packed buffer is the serialised command's, and 0 past its end. -/
theorem read_packTx (c : CommandIntent) (x : Nat) : (packTx c).read x = (wireCommand c).serialise.getD x 0 := by
  have emptyWf : Memory.wf [] Config.frameMax = true := rfl
  rw [packTx, read_memWriteBytes (memWriteBytes_wf emptyWf _ _ _), read_memWriteBytes emptyWf, serialise_wireCommand]
  by_cases inHeader : x < 4
  · have notPayload : ¬ 4 ≤ x := by omega
    rw [List.getD_append _ _ _ _ inHeader]
    simp [inHeader, notPayload]
  · rw [List.getD_append_right _ _ _ _ (Nat.le_of_not_lt inHeader)]
    by_cases inPayload : x < 4 + (kindTable c).2.val.length
    · have fromHeader : 4 ≤ x := by omega
      simp [inPayload, fromHeader]
    · have pastPayload : (kindTable c).2.val.length ≤ x - 4 := by omega
      simp [inHeader, inPayload, pastPayload, Memory.read]

/-- R33 with R140: the frame handed to the Transport is the wire command serialised. -/
theorem packFrame_eq_serialise (c : CommandIntent) : packFrame c = (wireCommand c).serialise := by
  rw [packFrame, ← length_serialise_wireCommand]
  exact Memory.readBytes_eq_of_read fun i _ => by rw [read_packTx, Nat.zero_add]

/-- The one-byte length field tells the payload's length: a payload has at most 16 bytes, so nothing wraps. -/
theorem toNat_length_wireCommand (c : CommandIntent) :
    (wireCommand c).length.toNat = (wireCommand c).payload.length := by
  have fits : (kindTable c).2.val.length < 2 ^ 8 := Nat.lt_of_le_of_lt (kindTable c).2.property (by decide)
  exact (BitVec.toNat_ofNat _ _).trans (Nat.mod_eq_of_lt fits)

/-- Settles O35: the buffer's bytes give the serialised command, the payload's bound the two lengths. -/
theorem frameIsTheSerialisedWireCommand : Obligations.FrameIsTheSerialisedWireCommand := fun c => by
  have frameLength : (packFrame c).length = (wireCommand c).length.toNat + 4 :=
    calc (packFrame c).length
      _ = packLen c := by rw [packFrame_eq_serialise, length_serialise_wireCommand]
      _ = (wireCommand c).length.toNat + 4 := by rw [toNat_length_wireCommand]; rfl
  exact ⟨packFrame_eq_serialise c, rfl, rfl, (toNat_length_wireCommand c).symm, frameLength⟩

end Sys2Proof.Machine

/-! # Proofs: the layout of a full report (30_encoding.md R70, R71) -/

namespace Sys2Proof.Machine

/-- R54: the high byte above the low one is, as a number, the little-endian number at the low byte's offset. -/
theorem toNat_append_read (rx : Memory) (k : Nat) : (rx.read (k + 1) ++ rx.read k).toNat = leNat rx k := by
  have low : (rx.read k).toNat < 2 ^ 8 := (rx.read k).isLt
  rw [BitVec.toNat_append, ← Nat.shiftLeft_add_eq_or_of_lt low, leNat, Nat.shiftLeft_eq]
  omega

/-- R54: the 16 bits at an offset are those of the little-endian number there. -/
theorem append_read_eq_ofNat (rx : Memory) (k : Nat) :
    rx.read (k + 1) ++ rx.read k = BitVec.ofNat 16 (leNat rx k) :=
  (toNat_append_read rx k ▸ BitVec.ofNat_toNat 16 (rx.read (k + 1) ++ rx.read k)).symm

/-- A motion field: the little-endian number at its offset shifted right by 4 with its sign (R110). -/
theorem asr_append_read (rx : Memory) (k : Nat) :
    asr (rx.read (k + 1) ++ rx.read k) 4 = (BitVec.ofNat 16 (leNat rx k)).sshiftRight 4 :=
  congrArg (asr · 4) (append_read_eq_ofNat rx k)

/-- Settles O21: the bytes and flags stand in the layout as they are, the 16-bit fields by `toNat_append_read`. -/
theorem snapshotFieldsFollowTheReportLayout : Obligations.SnapshotFieldsFollowTheReportLayout := by
  rintro rx _ rfl
  rw [unpack_full]
  have half := toNat_append_read rx
  have motion := asr_append_read rx
  exact ⟨⟨rfl, rfl, rfl, rfl, rfl, rfl⟩,
    ⟨half 18, half 20, half 22, half 24, motion 26, motion 28, motion 30⟩,
    ⟨half 34, half 36, half 38, half 40, motion 42, motion 44, motion 46⟩,
    ⟨rfl, rfl, rfl, rfl, rfl, half 55, rfl, rfl⟩⟩

end Sys2Proof.Machine

/-! # Proofs: the violation bit (30_encoding.md R93) -/

namespace Sys2Proof.Machine

/-- Tearing a session down is no violation. -/
@[simp] theorem State.teardown_viol (s : State) : s.teardown.viol = s.viol := by
  obtain ⟨_, waits⟩ | ⟨_, releases⟩ := s.teardown_cases
  · rw [waits]
  · rw [releases, State.release_viol]

/-- An event either violates, and then only that is recorded, or it is none of the six causes and keeps `viol`. -/
theorem Effect.violates_or_keeps_viol {i : Instr} {s t : State} (h : Effect s i t) :
    (violates i s = true ∧ t = s.violate) ∨ (violates i s = false ∧ t.viol = s.viol) := by
  cases h with
  | violation cause => exact .inl ⟨cause, rfl⟩
  | opened _ connecting => exact .inr ⟨by simp [violates, connecting], by simp⟩
  | openFailed _ _ _ connecting => exact .inr ⟨by simp [violates, connecting], by simp⟩
  | sendClosed c isSend closed =>
    exact .inr ⟨by simp [isSend, violates_sendEvent, secondWriter, closed], by simp⟩
  | issued c isSend _ free => exact .inr ⟨by simp [isSend, violates_sendEvent, secondWriter, free], by simp⟩
  | written _ outstanding => exact .inr ⟨by simp [violates, outstanding], by simp⟩
  | writtenReleased _ outstanding => exact .inr ⟨by simp [violates, outstanding], by simp⟩
  | nop | emitted | dropped | notProbed | probed | probeLost | closed | closeIgnored => exact .inr ⟨rfl, by simp⟩

/-- Settles O44: the two cases of `Effect.violates_or_keeps_viol`. -/
theorem violationBitRule : Obligations.ViolationBitRule := by
  intro i s t run
  obtain ⟨cause, rfl⟩ | ⟨noCause, kept⟩ := (exec_effect run).violates_or_keeps_viol
  · exact ⟨by simp [cause], fun _ => ⟨rfl, rfl, fun _ => rfl⟩⟩
  · exact ⟨by simp [noCause, kept], fun cause => by simp [noCause] at cause⟩

end Sys2Proof.Machine

/-! # Proofs: unused bits of the event word are ignored (30_encoding.md R91) -/

namespace Sys2Proof

/-- The bits each event uses, field by field (R82 to R88): all bits of a used field, none of another. -/
def usedFields : Instr → Fields
  | .nop => { Fields.zero with ev := 7 }
  | .openSession _ _ => { Fields.zero with ev := 7, b := true, k := 7 }
  | .openReserved _ => { Fields.zero with ev := 7, k := 7 }
  | .packet _ => { Fields.zero with ev := 7, b := true }
  | .sendEnableTracking => { Fields.zero with ev := 7, k := 7 }
  | .sendHeadsetPower _ => { Fields.zero with ev := 7, k := 7, on := true }
  | .sendVRMode _ => { Fields.zero with ev := 7, k := 7, on := true }
  | .sendGenericOnOff _ _ => { Fields.zero with ev := 7, k := 7, on := true, gid := 0xFF }
  | .sendBoxPowerOff => { Fields.zero with ev := 7, k := 7 }
  | .sendCinematicConfig _ _ _ _ _ =>
      { Fields.zero with ev := 7, k := 7, dist := 0xFF, size := 0xFF, bright := 0xFF, mic := 0xFF, flag := true }
  | .sendReservedKind _ => { Fields.zero with ev := 7, k := 7 }
  | .writeDone _ => { Fields.zero with ev := 7, b := true }
  | .tick _ => { Fields.zero with ev := 7, b := true }
  | .close => { Fields.zero with ev := 7 }
  | .reservedEvent => { Fields.zero with ev := 7 }

/-- `usedMask` is the mask of the used fields. -/
theorem fieldsOf_usedMask (i : Instr) : fieldsOf (usedMask i) = usedFields i := by
  cases i <;> simp only [usedMask, usedFields] <;> decide

/-- Two words' fields agree on what an event uses. -/
def Fields.AgreeFor (i : Instr) (f g : Fields) : Prop :=
  f.and (usedFields i) = g.and (usedFields i)

/-! `BitVec.and_allOnes` with the mask written as a numeral, as `usedFields` writes it. -/

@[simp] theorem and_ones_three (x : BitVec 3) : x &&& 7#3 = x := BitVec.and_allOnes
@[simp] theorem and_ones_byte (x : Byte) : x &&& 255#8 = x := BitVec.and_allOnes

/-- Every event uses `EV`. -/
theorem Fields.AgreeFor.ev_eq {i : Instr} {f g : Fields} (agree : f.AgreeFor i g) : f.ev = g.ev := by
  have used : (usedFields i).ev = 7 := by cases i <;> rfl
  simpa [Fields.and, used] using congrArg Fields.ev agree

theorem Fields.AgreeFor.k_eq {i : Instr} {f g : Fields} (agree : f.AgreeFor i g) (used : (usedFields i).k = 7) :
    f.k = g.k := by
  simpa [Fields.and, used] using congrArg Fields.k agree

/-- Every OPEN uses its result code, a reserved one too. -/
theorem k_usedFields_decodeOpen (f : Fields) : (usedFields (decodeOpen f)).k = 7 := by
  unfold decodeOpen
  split <;> rfl

/-- Every SEND uses its kind, a reserved one too. -/
theorem k_usedFields_decodeSend (f : Fields) : (usedFields (decodeSend f)).k = 7 := by
  unfold decodeSend
  split <;> rfl

theorem decodeOpen_eq_of_agree {f g : Fields} (agree : f.AgreeFor (decodeOpen g) g) :
    decodeOpen f = decodeOpen g := by
  have k : f.k = g.k := agree.k_eq (k_usedFields_decodeOpen g)
  unfold Fields.AgreeFor decodeOpen at *
  rw [k]
  split <;> simp_all [Fields.and, usedFields]

theorem decodeSend_eq_of_agree {f g : Fields} (agree : f.AgreeFor (decodeSend g) g) :
    decodeSend f = decodeSend g := by
  have k : f.k = g.k := agree.k_eq (k_usedFields_decodeSend g)
  unfold Fields.AgreeFor decodeSend at *
  rw [k]
  split <;> simp_all [Fields.and, usedFields]

theorem decodeFields_eq_of_agree {f g : Fields} (agree : f.AgreeFor (decodeFields g) g) :
    decodeFields f = decodeFields g := by
  have ev : f.ev = g.ev := agree.ev_eq
  unfold decodeFields at *
  rw [ev]
  split
  case h_2 isOpen => exact decodeOpen_eq_of_agree (by simpa only [isOpen] using agree)
  case h_4 isSend => exact decodeSend_eq_of_agree (by simpa only [isSend] using agree)
  all_goals simp_all [Fields.AgreeFor, Fields.and, usedFields]

/-- Two words that agree on the bits one's event uses are the same event. -/
theorem decode_eq_of_and_usedMask {v w : EventWord}
    (agree : v &&& usedMask (decode w) = w &&& usedMask (decode w)) : decode v = decode w := by
  have fields := congrArg fieldsOf agree
  rw [fieldsOf_and, fieldsOf_and, fieldsOf_usedMask] at fields
  exact decodeFields_eq_of_agree fields

end Sys2Proof

namespace Sys2Proof.Machine

/-- The state with another word on its event port. -/
def State.withEvWord (s : State) (w : EventWord) : State :=
  { s with ports := { s.ports with evWord := w } }

@[simp] theorem State.withEvWord_st (s : State) (w : EventWord) : (s.withEvWord w).st = s.st := rfl
@[simp] theorem State.withEvWord_wrPending (s : State) (w : EventWord) : (s.withEvWord w).wrPending = s.wrPending := rfl

theorem State.teardown_withEvWord (s : State) (w : EventWord) :
    (s.withEvWord w).teardown = s.teardown.withEvWord w := by
  cases outstanding : s.wrPending <;> simp [State.teardown, outstanding] <;> rfl

theorem State.send_withEvWord (s : State) (w : EventWord) (c : CommandIntent) :
    (s.withEvWord w).send c = (s.send c).withEvWord w := by
  by_cases streaming : s.st = .streaming
  · cases outstanding : s.wrPending <;> simp [State.send, streaming, outstanding] <;> rfl
  · simp [State.send, streaming]
    rfl

/-- No meaning looks at the event port once the event is decoded: another word there makes no other difference. -/
theorem exec_withEvWord (i : Instr) (s : State) (w : EventWord) :
    ∃ t, exec i s = .next t ∧ exec i (s.withEvWord w) = .next (t.withEvWord w) := by
  have send (c : CommandIntent) : ∃ t, exec (sendEvent c) s = .next t ∧
      exec (sendEvent c) (s.withEvWord w) = .next (t.withEvWord w) :=
    ⟨s.send c, exec_sendEvent c s, by rw [exec_sendEvent, State.send_withEvWord]⟩
  cases i with
  | nop | openReserved | sendReservedKind | reservedEvent => exact ⟨_, rfl, rfl⟩
  | openSession u r =>
    by_cases connecting : s.st = .connecting
    · cases r <;> exact ⟨_, if_pos connecting, if_pos connecting⟩
    · exact ⟨_, if_neg connecting, if_neg connecting⟩
  | packet full =>
    by_cases streaming : s.st = .streaming
    · exact ⟨_, if_pos streaming, if_pos streaming⟩
    · exact ⟨_, if_neg streaming, if_neg streaming⟩
  | sendEnableTracking => exact send .enableTracking
  | sendHeadsetPower on => exact send (.headsetPower on)
  | sendVRMode enter => exact send (.vrMode enter)
  | sendGenericOnOff id on => exact send (.genericOnOff id on)
  | sendBoxPowerOff => exact send .boxPowerOff
  | sendCinematicConfig dist size bright mic flag => exact send (.cinematicConfig dist size bright mic flag)
  | writeDone ok =>
    by_cases outstanding : s.wrPending = true
    · by_cases closing : s.closing = true
      · exact ⟨_, (if_pos outstanding).trans (if_pos closing), (if_pos outstanding).trans (if_pos closing)⟩
      · exact ⟨_, (if_pos outstanding).trans (if_neg closing), (if_pos outstanding).trans (if_neg closing)⟩
    · exact ⟨_, if_neg outstanding, if_neg outstanding⟩
  | tick a =>
    by_cases off : s.timerEn = false
    · exact ⟨_, if_pos off, if_pos off⟩
    · by_cases due : probeDue s.params.livenessInterval s.ports.now s.lastCheckAt = true
      · cases a
        · refine ⟨_, (if_neg off).trans (if_pos due), ((if_neg off).trans (if_pos due)).trans ?_⟩
          exact congrArg Host.Outcome.next ((s.probe false).teardown_withEvWord w)
        · exact ⟨_, (if_neg off).trans (if_pos due), (if_neg off).trans (if_pos due)⟩
      · exact ⟨_, (if_neg off).trans (if_neg due), (if_neg off).trans (if_neg due)⟩
  | close =>
    by_cases held : s.st = .streaming ∧ s.closing = false
    · refine ⟨_, if_pos held, ?_⟩
      exact (if_pos held).trans (congrArg Host.Outcome.next (s.clearOut.teardown_withEvWord w))
    · exact ⟨_, if_neg held, if_neg held⟩

/-- What a step does with the oldest pending sample (R13, R250). -/
theorem step_of_pending {s : State} {p : PortSample} {ps : List PortSample} (pending : s.pending = p :: ps) :
    step s = if p.rst then .next (State.resetRegisters { s with ports := p, pending := ps })
      else exec (decode p.evWord) { s with ports := p, pending := ps } := by
  rw [step, s.latch_cons pending]

/-- A step whose sample carries another word of the same event: nothing but the port's word differs. -/
theorem step_withEvWord {s : State} {p : PortSample} {ps : List PortSample} {w : EventWord}
    (pending : s.pending = p :: ps) (same : decode w = decode p.evWord) :
    ∃ t, step s = .next t ∧ step { s with pending := { p with evWord := w } :: ps } = .next (t.withEvWord w) := by
  rw [step_of_pending pending, step_of_pending (p := { p with evWord := w }) rfl, same]
  by_cases reset : p.rst = true
  · exact ⟨_, if_pos reset, if_pos reset⟩
  · obtain ⟨t, run, run'⟩ := exec_withEvWord (decode p.evWord) { s with ports := p, pending := ps } w
    exact ⟨t, (if_neg reset).trans run, (if_neg reset).trans run'⟩

/-- Settles O3: the unused bits change neither the decoded event nor what its meaning does. -/
theorem unusedBitsAreIgnored : Obligations.UnusedBitsAreIgnored := by
  intro s p ps w pending agree
  have same : decode w = decode p.evWord := decode_eq_of_and_usedMask agree
  obtain ⟨t, run, run'⟩ := step_withEvWord pending same
  exact ⟨same, t, t.withEvWord w, run, run', rfl, rfl, rfl⟩

end Sys2Proof.Machine

/-! # Proofs: the motion fields, the button set and the zero snapshot (40_unpacker.md R101, R102, R110) -/

namespace Sys2Proof.Machine

/-- R110: a shift by 4 is the floor of a sixteenth, and a sixteenth of a signed 16-bit number has 12 bits. -/
theorem asr_four_floor_and_range (v : Half) :
    (asr v 4).toInt = Int.fdiv v.toInt 16 ∧ -2048 ≤ (asr v 4).toInt ∧ (asr v 4).toInt ≤ 2047 := by
  have floor : (asr v 4).toInt = Int.fdiv v.toInt 16 := toInt_asr v 4
  have quotient : Int.fdiv v.toInt 16 = v.toInt / 16 := Int.fdiv_eq_ediv_of_nonneg _ (by decide)
  have low : -2 ^ 15 ≤ v.toInt := v.le_toInt
  have high : v.toInt < 2 ^ 15 := v.toInt_lt
  exact ⟨floor, by omega, by omega⟩

/-- Settles O23: each motion field is such a shift of its raw field. -/
theorem motionIsFloorOfSixteenth : Obligations.MotionIsFloorOfSixteenth := fun _ _ =>
  ⟨asr_four_floor_and_range _, asr_four_floor_and_range _, asr_four_floor_and_range _⟩

/-- R102: what the button set holds, as the union of its three one-button parts. -/
theorem Snapshot.mem_buttonSet (v : Snapshot) (b : Button) : b ∈ v.buttonSet ↔
    (v.buttons.getLsbD 1 = true ∧ b = .volumeUp) ∨ (v.buttons.getLsbD 2 = true ∧ b = .volumeDown) ∨
      (v.buttons.getLsbD 3 = true ∧ b = .mute) := by
  simp only [Snapshot.buttonSet, List.mem_append, List.mem_ite_nil_right, List.mem_singleton, or_assoc]

@[simp] theorem unpack_true_buttons (rx : Memory) : (unpack true rx).buttons = memRead1 rx 0 := rfl

/-- Settles O26: `Snapshot.mem_buttonSet` at each named button, whose bit is one of byte 0. -/
theorem buttonSetReadsBitsOneToThree : Obligations.ButtonSetReadsBitsOneToThree := by
  refine fun rx => ⟨unpack_true_buttons rx, ?_, ?_, ?_⟩ <;> simp [Snapshot.mem_buttonSet]

/-- Settles O20: a short report by `unpack_short`; in 64 zero bytes only the inverted bit 1 of byte 8 is not 0. -/
theorem shortReportGivesZeroSnapshot : Obligations.ShortReportGivesZeroSnapshot :=
  ⟨unpack_short, by rw [unpack_full]; decide⟩

end Sys2Proof.Machine

/-! # Proofs: the frame each SEND hands over (41_packer.md R142 to R148) -/

namespace Sys2Proof.Machine

/-- R174: a SEND that passes the state check and the outstanding-write check issues its write. -/
theorem State.send_accepted (c : CommandIntent) {s : State} (streaming : s.st = .streaming)
    (free : s.wrPending = false) : s.send c = s.issueWrite c := by
  simp [State.send, streaming, free]

/-- R174: what an accepted SEND answers, over the bytes of its intent's frame. -/
theorem exec_sendEvent_accepted {c : CommandIntent} {frame : List Byte} (packs : packFrame c = frame) {s : State}
    (streaming : s.st = .streaming) (free : s.wrPending = false) :
    ∃ t, exec (sendEvent c) s = .next t ∧ t.regs = { s.regs with wrPending := true } ∧
      t.out = { Output.empty with trWrite := some { bytes := frame, timeout := s.params.writeTimeout } } :=
  ⟨s.issueWrite c, by rw [exec_sendEvent, State.send_accepted c streaming free], rfl,
    by rw [State.issueWrite_out, packs]⟩

/-- R55 with R8: the payload word of one bit has that bit in its first byte. -/
theorem le32_zext32 (b : Bool) : le32 (zext32 b) = [if b then 0x01 else 0x00, 0x00, 0x00, 0x00] := by
  cases b <;> rfl

/-- R143 to R145: the frame of a kind whose payload is one bit. -/
theorem packFrame_of_bitPayload {c : CommandIntent} {id : Byte} {b : Bool}
    (kind : kindTable c = (id, wordPayload (zext32 b))) :
    packFrame c = [id, 0x00, 0xAA, 0x04, if b then 0x01 else 0x00, 0x00, 0x00, 0x00] := by
  have payload : (kindTable c).2.val = [if b then 0x01 else 0x00, 0x00, 0x00, 0x00] := by
    rw [kind, ← le32_zext32]; rfl
  rw [packFrame_eq_serialise, serialise_wireCommand, payload, kind]
  rfl

/-- R142: the low byte of 0xFFFFFF00 comes first. -/
theorem packFrame_enableTracking : packFrame .enableTracking =
    [0x11, 0x00, 0xAA, 0x08, 0x00, 0xFF, 0xFF, 0xFF, 0x00, 0x00, 0x00, 0x00] := by
  rw [packFrame_eq_serialise]
  rfl

/-- R147: size before distance, the flag inverted. -/
theorem packFrame_cinematicConfig (dist size bright mic : Byte) (flag : Bool) :
    packFrame (.cinematicConfig dist size bright mic flag) =
      [0x21, 0x00, 0xAA, 0x10, 0x00, size, dist, 0x00, 0x00, 0x00, 0x00, 0x00, 0x00, 0x00,
        bright, mic, 0x00, 0x00, if flag then 0x00 else 0x01, 0x00] := by
  rw [packFrame_eq_serialise]
  rfl

/-- Settles O28: an accepted SEND with the frame of `packFrame_enableTracking`. -/
theorem enableTrackingSendsItsFrame : Obligations.EnableTrackingSendsItsFrame := fun _ =>
  exec_sendEvent_accepted packFrame_enableTracking

/-- Settles O29: an accepted SEND whose payload is the bit `on`. -/
theorem headsetPowerSendsItsFrame : Obligations.HeadsetPowerSendsItsFrame := fun _ on =>
  exec_sendEvent_accepted (c := .headsetPower on) (packFrame_of_bitPayload rfl)

/-- Settles O30: an accepted SEND whose payload is the bit `enter`. -/
theorem vrModeSendsItsFrame : Obligations.VRModeSendsItsFrame := fun _ enter =>
  exec_sendEvent_accepted (c := .vrMode enter) (packFrame_of_bitPayload rfl)

/-- Settles O31: an accepted SEND whose payload is the bit `on`, under the report id it is given. -/
theorem genericOnOffSendsItsFrame : Obligations.GenericOnOffSendsItsFrame := fun _ id on =>
  exec_sendEvent_accepted (c := .genericOnOff id on) (packFrame_of_bitPayload rfl)

/-- Settles O32: an accepted SEND whose payload is the bit 1. -/
theorem boxPowerOffSendsItsFrame : Obligations.BoxPowerOffSendsItsFrame := fun _ =>
  exec_sendEvent_accepted (c := .boxPowerOff) (packFrame_of_bitPayload (b := true) rfl)

/-- Settles O33: an accepted SEND with the frame of `packFrame_cinematicConfig`. -/
theorem cinematicConfigSendsItsFrame : Obligations.CinematicConfigSendsItsFrame := fun _ dist size bright mic flag =>
  exec_sendEvent_accepted (packFrame_cinematicConfig dist size bright mic flag)

/-- Settles O34: a reserved kind is one of the causes of `violationBitRule`, which changes `viol` only. -/
theorem reservedKindWritesNoFrame : Obligations.ReservedKindWritesNoFrame :=
  ⟨by decide, fun k s => ⟨s.violate, rfl, (violationBitRule (.sendReservedKind k) s s.violate rfl).2 rfl⟩⟩

end Sys2Proof.Machine

/-! # Proofs: the lifecycle events and the report event (42_session_fsm.md R171 to R173, R177 to R180) -/

namespace Sys2Proof.Machine

/-- R93 with R225: an event with one of the six causes sets `viol` and drives nothing. -/
theorem exec_of_violates {i : Instr} {s : State} (cause : violates i s = true) :
    ∃ t, exec i s = .next t ∧ t.regs = { s.regs with viol := true } ∧ t.out = Output.empty := by
  obtain ⟨t, run, _⟩ := exec_withEvWord i s s.ports.evWord
  obtain ⟨regs, out, _⟩ := (violationBitRule i s t run).2 cause
  exact ⟨t, run, regs, out⟩

/-- R178: TEARDOWN waits for an outstanding write. -/
theorem State.teardown_of_outstanding (s : State) (outstanding : s.wrPending = true) :
    s.teardown = { s with timerEn := false, closing := true } :=
  if_pos outstanding

/-- R178: TEARDOWN with no write outstanding is RELEASE, which turns the timer off itself. -/
theorem State.teardown_of_free (s : State) (free : s.wrPending = false) : s.teardown = s.release :=
  if_neg (by simp [free])

theorem exec_close_of_open {s : State} (streaming : s.st = .streaming) (notClosing : s.closing = false) :
    exec .close s = .next s.clearOut.teardown :=
  if_pos ⟨streaming, notClosing⟩

theorem exec_close_of_notOpen {s : State} (notOpen : s.st ≠ .streaming ∨ s.closing = true) :
    exec .close s = .next s.clearOut :=
  if_neg fun ⟨streaming, notClosing⟩ => notOpen.elim (· streaming) (by simp [notClosing])

/-- Settles O14: the two violations by `exec_of_violates`, the others by the open result's own update. -/
theorem openFollowsItsRule : Obligations.OpenFollowsItsRule := fun s =>
  ⟨fun _ => exec_of_violates rfl,
    fun _ _ notConnecting => exec_of_violates (decide_eq_true notConnecting),
    fun u connecting => ⟨s.openOk u, if_pos connecting, rfl, rfl⟩,
    fun u connecting => ⟨s.openFailed u .deviceNotFound, if_pos connecting, rfl, rfl⟩,
    fun u connecting => ⟨s.openFailed u .deviceBusy, if_pos connecting, rfl, rfl⟩,
    fun u connecting => ⟨s.openFailed u .deviceMismatch, if_pos connecting, rfl, rfl⟩⟩

/-- Settles O15: an open session is torn down, in the two ways of R178; RELEASE finds `closing` already 0. -/
theorem closeFollowsItsRule : Obligations.CloseFollowsItsRule := by
  intro s
  refine ⟨fun streaming notClosing free => ?_, fun streaming notClosing outstanding => ?_,
    fun notOpen => ⟨s.clearOut, exec_close_of_notOpen notOpen, rfl, rfl⟩⟩
  · refine ⟨s.clearOut.release, ?_, ?_, rfl⟩
    · rw [exec_close_of_open streaming notClosing, s.clearOut.teardown_of_free free]
    · simp [State.regs, notClosing]
  · refine ⟨{ s.clearOut with timerEn := false, closing := true }, ?_, rfl, rfl⟩
    rw [exec_close_of_open streaming notClosing, s.clearOut.teardown_of_outstanding outstanding]

/-- Settles O13: NOP only clears the output record. -/
theorem nopChangesNothing : Obligations.NopChangesNothing := fun s => ⟨s.clearOut, rfl, rfl, rfl⟩

/-- Settles O16: the reserved event is a cause of a violation in every state. -/
theorem reservedEventViolates : Obligations.ReservedEventViolates := fun _ => exec_of_violates rfl

/-- Settles O18: emitted while the handle is subscribed, dropped with nothing but a cleared output record. -/
theorem packetFollowsItsRule : Obligations.PacketFollowsItsRule := fun full s =>
  ⟨fun streaming => ⟨s.emit (unpack full s.ports.rxData), if_pos streaming, rfl, rfl⟩,
    fun notStreaming => ⟨s.clearOut, if_neg notStreaming, rfl, rfl⟩⟩

end Sys2Proof.Machine

/-! # Proofs: the command events (42_session_fsm.md R174, R175) -/

namespace Sys2Proof.Machine

/-- R174: a SEND outside an open session is answered and not handed over. -/
theorem State.send_of_notStreaming (c : CommandIntent) {s : State} (notStreaming : s.st ≠ .streaming) :
    s.send c = s.reportSend false .sessionClosed :=
  if_pos notStreaming

/-- R93 item 5: a SEND with a write outstanding is a violation. -/
theorem violates_sendEvent_of_outstanding (c : CommandIntent) {s : State} (streaming : s.st = .streaming)
    (outstanding : s.wrPending = true) : violates (sendEvent c) s = true := by
  simp [violates_sendEvent, secondWriter, streaming, outstanding]

/-- Settles O27: the checks in the order of R174, the violations by `exec_of_violates`. -/
theorem sendFollowsItsRule : Obligations.SendFollowsItsRule := by
  refine fun s => ⟨fun _ => exec_of_violates rfl, fun c => ⟨fun notStreaming => ?_, ?_, ?_⟩⟩
  · refine ⟨s.reportSend false .sessionClosed, ?_, rfl, rfl⟩
    rw [exec_sendEvent, State.send_of_notStreaming c notStreaming]
  · exact fun streaming outstanding => exec_of_violates (violates_sendEvent_of_outstanding c streaming outstanding)
  · exact exec_sendEvent_accepted rfl

/-- The outstanding write is over and its result reported, as the first part of WRITE_DONE (R175). -/
def State.finishWrite (s : State) (ok : Bool) : State :=
  { s with wrPending := false }.reportSend ok (if ok then .none else .writeError)

theorem exec_writeDone_of_notClosing (ok : Bool) {s : State} (outstanding : s.wrPending = true)
    (notClosing : s.closing = false) : exec (.writeDone ok) s = .next (s.finishWrite ok) :=
  (if_pos outstanding).trans (if_neg (by simp [notClosing]))

theorem exec_writeDone_of_closing (ok : Bool) {s : State} (outstanding : s.wrPending = true)
    (closing : s.closing = true) : exec (.writeDone ok) s = .next (s.finishWrite ok).release :=
  (if_pos outstanding).trans (if_pos closing)

/-- Settles O37: with nothing outstanding a violation; else the result, and RELEASE where teardown waits. -/
theorem writeDoneFollowsItsRule : Obligations.WriteDoneFollowsItsRule := fun ok s =>
  ⟨fun free => exec_of_violates (by simp [violates, free]),
    fun outstanding notClosing => ⟨_, exec_writeDone_of_notClosing ok outstanding notClosing, rfl, rfl⟩,
    fun outstanding closing => ⟨_, exec_writeDone_of_closing ok outstanding closing, rfl, rfl⟩⟩

end Sys2Proof.Machine

/-! # Proofs: the liveness probe (42_session_fsm.md R176) -/

namespace Sys2Proof.Machine

/-- R176: the modular time since the last check has reached `LIVENESS_INTERVAL`. -/
def State.due (s : State) : Prop :=
  s.params.livenessInterval ≤ (s.ports.now - s.lastCheckAt).toNat

theorem probeDue_iff_due {s : State} :
    probeDue s.params.livenessInterval s.ports.now s.lastCheckAt = true ↔ s.due :=
  decide_eq_true_iff

theorem exec_tick_of_off (a : Bool) {s : State} (off : s.timerEn = false) : exec (.tick a) s = .next s.clearOut :=
  if_pos off

theorem exec_tick_of_notDue (a : Bool) {s : State} (on : s.timerEn = true) (notDue : ¬ s.due) :
    exec (.tick a) s = .next s.clearOut :=
  (if_neg (by simp [on])).trans (if_neg (mt probeDue_iff_due.mp notDue))

/-- R176: a probe that is due takes the answer; an absent device tears the session down. -/
theorem exec_tick_of_due (a : Bool) {s : State} (on : s.timerEn = true) (due : s.due) :
    exec (.tick a) s = if a then .next (s.probe true) else .next (s.probe false).teardown :=
  (if_neg (by simp [on])).trans (if_pos (probeDue_iff_due.mpr due))

/-- Settles O43: the timer, then the due test, then the answer, then the two ways of R178. -/
theorem tickFollowsItsRule : Obligations.TickFollowsItsRule := by
  refine fun s => ⟨fun a off => ⟨s.clearOut, exec_tick_of_off a off, rfl, rfl⟩,
    fun a on notDue => ⟨s.clearOut, exec_tick_of_notDue a on (Nat.not_le.mpr notDue), rfl, rfl⟩,
    fun on due => ⟨s.probe true, exec_tick_of_due true on due, rfl, rfl⟩,
    fun on due free => ⟨(s.probe false).release, ?_, rfl, rfl⟩,
    fun on due outstanding => ⟨{ s.probe false with timerEn := false, closing := true }, ?_, rfl, rfl⟩⟩
  · rw [← (s.probe false).teardown_of_free free]
    exact exec_tick_of_due false on due
  · rw [← (s.probe false).teardown_of_outstanding outstanding]
    exact exec_tick_of_due false on due

end Sys2Proof.Machine

/-! # Proofs: the reset (70_reset_and_hazards.md R250, R251) -/

namespace Sys2Proof.Machine

/-- R251: the state a run starts from and a reset step have the same registers. -/
@[simp] theorem State.resetRegisters_regs (s : State) : s.resetRegisters.regs = State.reset.regs := rfl

/-- R250: a sample with `rst = 1` resets the registers, and its event word is not decoded. -/
theorem step_of_reset {s : State} {p : PortSample} {ps : List PortSample} (pending : s.pending = p :: ps)
    (reset : p.rst = true) : step s = .next (State.resetRegisters { s with ports := p, pending := ps }) :=
  (step_of_pending pending).trans (if_pos reset)

/-- Settles O9: a reset step is `step_of_reset`, whose registers and output record no earlier state reaches. -/
theorem resetGivesEveryRegisterItsValue : Obligations.ResetGivesEveryRegisterItsValue :=
  ⟨rfl, fun _ _ _ pending reset =>
    ⟨_, step_of_reset pending reset, State.resetRegisters_regs _, State.resetRegisters_out _⟩⟩

end Sys2Proof.Machine

/-! # Proofs: the encoder and the decoder (30_encoding.md sections 3 and 4) -/

namespace Sys2Proof

/-- The event word carries the fields through, so decoding an encoded event looks at the event's own fields. -/
theorem decode_encode_eq_decodeFields (i : Instr) : decode (encode i) = decodeFields (encodeFields i) := by
  rw [decode, encode, fieldsOf_wordOf]

/-- A reserved open result is none of the codes 0 to 3 that R89 names. -/
theorem decodeFields_encodeFields_openReserved {res : BitVec 3} (reserved : (Instr.openReserved res).wf = true) :
    decodeFields (encodeFields (.openReserved res)) = .openReserved res := by
  revert res; decide

/-- A reserved kind is none of the kinds 0 to 5 that R85 names. -/
theorem decodeFields_encodeFields_sendReservedKind {k : BitVec 3} (reserved : (Instr.sendReservedKind k).wf = true) :
    decodeFields (encodeFields (.sendReservedKind k)) = .sendReservedKind k := by
  revert k; decide

theorem decodeFields_encodeFields {i : Instr} (wf : i.wf = true) : decodeFields (encodeFields i) = i := by
  cases i with
  | openReserved res => exact decodeFields_encodeFields_openReserved wf
  | sendReservedKind k => exact decodeFields_encodeFields_sendReservedKind wf
  | openSession u res => cases res <;> rfl
  | nop | packet | sendEnableTracking | sendHeadsetPower | sendVRMode | sendGenericOnOff | sendBoxPowerOff
  | sendCinematicConfig | writeDone | tick | close | reservedEvent => rfl

/-- Settles O1: the fields come back by `fieldsOf_wordOf`, the event from its fields constructor by constructor. -/
theorem decodeEncodeRoundTrip : Obligations.DecodeEncodeRoundTrip := fun i wf => by
  rw [decode_encode_eq_decodeFields, decodeFields_encodeFields wf]

/-- `usedMask` is the word of the used fields: it has no bit above 48. -/
theorem usedMask_eq_wordOf (i : Instr) : usedMask i = wordOf (usedFields i) := by
  cases i <;> simp only [usedMask, usedFields] <;> decide

/-- An OPEN is encoded with what it uses of its fields. -/
theorem encodeFields_decodeOpen {f : Fields} (isOpen : f.ev = 1#3) :
    encodeFields (decodeOpen f) = f.and (usedFields (decodeOpen f)) := by
  unfold decodeOpen
  split <;> simp_all [encodeFields, openResultCode, usedFields, Fields.and, Fields.zero]

/-- A SEND is encoded with what it uses of its fields. -/
theorem encodeFields_decodeSend {f : Fields} (isSend : f.ev = 3#3) :
    encodeFields (decodeSend f) = f.and (usedFields (decodeSend f)) := by
  unfold decodeSend
  split <;> simp_all [encodeFields, usedFields, Fields.and, Fields.zero]

/-- `EV` = 7 is what the decoder's last case leaves. -/
theorem ev_eq_seven {ev : BitVec 3} (notNop : ev ≠ 0#3) (notOpen : ev ≠ 1#3) (notPacket : ev ≠ 2#3)
    (notSend : ev ≠ 3#3) (notWriteDone : ev ≠ 4#3) (notTick : ev ≠ 5#3) (notClose : ev ≠ 6#3) : ev = 7#3 := by
  bv_omega

/-- R91, field by field: an event is encoded with what it uses of the fields it was decoded from. -/
theorem encodeFields_decodeFields (f : Fields) :
    encodeFields (decodeFields f) = f.and (usedFields (decodeFields f)) := by
  unfold decodeFields
  split
  case h_2 isOpen => exact encodeFields_decodeOpen isOpen
  case h_4 isSend => exact encodeFields_decodeSend isSend
  case h_8 h0 h1 h2 h3 h4 h5 h6 =>
    have reserved : f.ev = 7#3 := ev_eq_seven h0 h1 h2 h3 h4 h5 h6
    simp [encodeFields, usedFields, Fields.and, Fields.zero, reserved]
  all_goals simp_all [encodeFields, usedFields, Fields.and, Fields.zero]

/-- Settles O2: the used bits as a word of fields, then `encodeFields_decodeFields`. -/
theorem encodeDecodeKeepsUsedBits : Obligations.EncodeDecodeKeepsUsedBits := fun w => by
  rw [usedMask_eq_wordOf, and_wordOf, encode, decode, encodeFields_decodeFields]

theorem decodeOpen_wf (f : Fields) : (decodeOpen f).wf = true := by
  have reserved : ∀ k : BitVec 3, k ≠ 0#3 → k ≠ 1#3 → k ≠ 2#3 → k ≠ 3#3 → 4 ≤ k.toNat := by bv_omega
  unfold decodeOpen
  split <;> simp_all [Instr.wf]

theorem decodeSend_wf (f : Fields) : (decodeSend f).wf = true := by
  have reserved : ∀ k : BitVec 3, k ≠ 0#3 → k ≠ 1#3 → k ≠ 2#3 → k ≠ 3#3 → k ≠ 4#3 → k ≠ 5#3 → 6 ≤ k.toNat := by
    bv_omega
  unfold decodeSend
  split <;> simp_all [Instr.wf]

/-- Settles O5: only OPEN and SEND have reserved codes, and their named codes are decoded first. -/
theorem decodedEventIsWellFormed : Obligations.DecodedEventIsWellFormed := by
  intro w
  unfold decode decodeFields
  split
  case h_2 => exact decodeOpen_wf _
  case h_4 => exact decodeSend_wf _
  all_goals rfl

/-- Settles O6: the decoder run on the thirteen words. -/
theorem specWordsDecode : Obligations.SpecWordsDecode := by
  unfold Obligations.SpecWordsDecode; decide

end Sys2Proof

/-! # Proofs: the rows of the opcode table (30_encoding.md R94, spec/opcode_table.json) -/

namespace Sys2Proof.Laws

/-- A well-formed event of any constructor is encoded within its own row. -/
theorem encodesInRow (i : Instr) : EncodesInRow.Statement i := by
  cases i with
  | nop => exact EncodesInRow.nop
  | openSession u res => exact EncodesInRow.openSession u res
  | openReserved res => exact EncodesInRow.openReserved res
  | packet full => exact EncodesInRow.packet full
  | sendEnableTracking => exact EncodesInRow.sendEnableTracking
  | sendHeadsetPower on => exact EncodesInRow.sendHeadsetPower on
  | sendVRMode enter => exact EncodesInRow.sendVRMode enter
  | sendGenericOnOff id on => exact EncodesInRow.sendGenericOnOff id on
  | sendBoxPowerOff => exact EncodesInRow.sendBoxPowerOff
  | sendCinematicConfig dist size bright mic flag =>
    exact EncodesInRow.sendCinematicConfig dist size bright mic flag
  | sendReservedKind k => exact EncodesInRow.sendReservedKind k
  | writeDone ok => exact EncodesInRow.writeDone ok
  | tick isAlive => exact EncodesInRow.tick isAlive
  | close => exact EncodesInRow.close
  | reservedEvent => exact EncodesInRow.reservedEvent

end Sys2Proof.Laws

namespace Sys2Proof

/-- The rows of the opcode table, each as its mask and its match, one for each constructor. -/
def tableRows : List (EventWord × EventWord) :=
  [(0x07, 0x00), (0x47, 0x01), (0x47, 0x41), (0x07, 0x02), (0x77, 0x03), (0x77, 0x13), (0x77, 0x23), (0x77, 0x33),
    (0x77, 0x43), (0x77, 0x53), (0x67, 0x63), (0x07, 0x04), (0x07, 0x05), (0x07, 0x06), (0x07, 0x07)]

theorem row_mem_tableRows (i : Instr) : (rowMask i, rowMatch i) ∈ tableRows := by
  cases i <;> simp [rowMask, rowMatch, tableRows]

/-- Two rows whose matches agree on the bits both masks fix have one match: the rows are disjoint. -/
theorem tableRows_disjoint : ∀ r ∈ tableRows, ∀ q ∈ tableRows, r.2 &&& q.1 = q.2 &&& r.1 → r.2 = q.2 := by
  simp [tableRows]

/-- The match of a row tells its mask. -/
theorem mask_eq_of_match_eq : ∀ r ∈ tableRows, ∀ q ∈ tableRows, r.2 = q.2 → r.1 = q.1 := by
  simp [tableRows]

/-- An event reads every bit its row fixes. -/
theorem usedMask_and_rowMask (i : Instr) : usedMask i &&& rowMask i = rowMask i := by
  cases i <;> simp only [usedMask, rowMask] <;> decide

/-- A word lies in the row of the event the decoder gives. -/
theorem and_rowMask_decode (w : EventWord) : w &&& rowMask (decode w) = rowMatch (decode w) :=
  calc w &&& rowMask (decode w)
    _ = w &&& usedMask (decode w) &&& rowMask (decode w) := by rw [BitVec.and_assoc, usedMask_and_rowMask]
    _ = encode (decode w) &&& rowMask (decode w) := by rw [encodeDecodeKeepsUsedBits w]
    _ = rowMatch (decode w) := Laws.encodesInRow _ (decodedEventIsWellFormed w)

/-- Settles O4: the word lies in the row of its event, and in no other since the rows are disjoint. -/
theorem everyWordLiesInOneRow : Obligations.EveryWordLiesInOneRow := by
  intro w i
  have own := and_rowMask_decode w
  have row := row_mem_tableRows i
  have rowOwn := row_mem_tableRows (decode w)
  constructor
  · intro inRow
    refine tableRows_disjoint _ row _ rowOwn ?_
    simp only [← inRow, ← own]
    ac_rfl
  · intro same
    have masks : rowMask i = rowMask (decode w) := mask_eq_of_match_eq _ row _ rowOwn same
    rw [masks, own, same]

end Sys2Proof

/-! # Proofs: what TEARDOWN does to each field (42_session_fsm.md R178) -/

namespace Sys2Proof.Machine

/-- TEARDOWN ends the session at once unless a write is outstanding. -/
theorem State.teardown_st (s : State) :
    s.teardown.st = if s.wrPending then s.st else .disconnected := by
  cases outstanding : s.wrPending <;> simp [State.teardown, outstanding]

@[simp] theorem State.teardown_timerEn (s : State) : s.teardown.timerEn = false := by
  cases outstanding : s.wrPending <;> simp [State.teardown, outstanding]

/-- `closing` is exactly the wait for the outstanding write. -/
@[simp] theorem State.teardown_closing (s : State) : s.teardown.closing = s.wrPending := by
  cases outstanding : s.wrPending <;> simp [State.teardown, outstanding]

@[simp] theorem State.teardown_removedEvt (s : State) :
    s.teardown.out.removedEvt = (s.out.removedEvt || !s.wrPending) := by
  cases outstanding : s.wrPending <;> simp [State.teardown, outstanding]

@[simp] theorem State.teardown_trClose (s : State) : s.teardown.out.trClose = (s.out.trClose || !s.wrPending) := by
  cases outstanding : s.wrPending <;> simp [State.teardown, outstanding]

/-! Both ways of TEARDOWN leave the other fields alone. -/

@[simp] theorem State.teardown_lastCheckAt (s : State) : s.teardown.lastCheckAt = s.lastCheckAt := by
  unfold State.teardown; split <;> rfl
@[simp] theorem State.teardown_wrPending (s : State) : s.teardown.wrPending = s.wrPending := by
  unfold State.teardown; split <;> rfl
@[simp] theorem State.teardown_snap (s : State) : s.teardown.snap = s.snap := by
  unfold State.teardown; split <;> rfl
@[simp] theorem State.teardown_tx (s : State) : s.teardown.tx = s.tx := by
  unfold State.teardown; split <;> rfl
@[simp] theorem State.teardown_ports (s : State) : s.teardown.ports = s.ports := by
  unfold State.teardown; split <;> rfl
@[simp] theorem State.teardown_pending (s : State) : s.teardown.pending = s.pending := by
  unfold State.teardown; split <;> rfl
@[simp] theorem State.teardown_params (s : State) : s.teardown.params = s.params := by
  unfold State.teardown; split <;> rfl
@[simp] theorem State.teardown_trAliveQuery (s : State) : s.teardown.out.trAliveQuery = s.out.trAliveQuery := by
  unfold State.teardown; split <;> rfl
@[simp] theorem State.teardown_trWrite (s : State) : s.teardown.out.trWrite = s.out.trWrite := by
  unfold State.teardown; split <;> rfl

end Sys2Proof.Machine

/-! # Proofs: the register invariants (10_state.md R38) -/

namespace Sys2Proof.Machine

/-- The registers the invariants speak of. -/
def State.controls (s : State) : Session × Bool × Bool × Bool × Bool :=
  (s.st, s.alive, s.timerEn, s.wrPending, s.closing)

theorem State.controls_eq_iff {s t : State} : t.controls = s.controls ↔
    t.st = s.st ∧ t.alive = s.alive ∧ t.timerEn = s.timerEn ∧ t.wrPending = s.wrPending ∧ t.closing = s.closing := by
  simp [State.controls]

/-- An event that writes none of those registers keeps the invariants. -/
theorem State.Inv.of_controls_eq {s t : State} (inv : s.Inv) (same : t.controls = s.controls) : t.Inv := by
  obtain ⟨st, alive, timerEn, wrPending, closing⟩ := State.controls_eq_iff.mp same
  constructor
  case connecting_quiet => simpa [State.quiet, *] using inv.connecting_quiet
  case disconnected_quiet => simpa [State.quiet, *] using inv.disconnected_quiet
  case closing_waits => simpa [*] using inv.closing_waits
  case streaming_live => simpa [*] using inv.streaming_live

/-- A STREAMING state has only the invariants of STREAMING to keep. -/
theorem State.inv_of_streaming {s : State} (streaming : s.st = .streaming)
    (waits : s.closing = true → s.wrPending = true ∧ s.timerEn = false)
    (live : s.closing = false → s.timerEn = true ∧ s.alive = true) : s.Inv where
  connecting_quiet := by simp [streaming]
  disconnected_quiet := by simp [streaming]
  closing_waits closing := ⟨streaming, waits closing⟩
  streaming_live _ := live

/-- Outside STREAMING nothing is on. -/
theorem State.Inv.quiet_of_notStreaming {s : State} (inv : s.Inv) (notStreaming : s.st ≠ .streaming) : s.quiet := by
  cases st : s.st with
  | connecting => exact inv.connecting_quiet st
  | streaming => exact absurd st notStreaming
  | disconnected => exact inv.disconnected_quiet st

theorem State.Inv.streaming_of_wrPending {s : State} (inv : s.Inv) (outstanding : s.wrPending = true) :
    s.st = .streaming := by
  by_contra notStreaming
  obtain ⟨_, _, free, _⟩ := inv.quiet_of_notStreaming notStreaming
  simp [free] at outstanding

/-- R38 items 3 and 4: the timer is off once the session is closed or teardown waits. -/
theorem State.Inv.timer_off {s : State} (inv : s.Inv) (ended : s.st = .disconnected ∨ s.closing = true) :
    s.timerEn = false := by
  obtain disconnected | closing := ended
  · obtain ⟨_, off, _, _⟩ := inv.disconnected_quiet disconnected
    exact off
  · obtain ⟨_, _, off⟩ := inv.closing_waits closing
    exact off

/-- The timer runs only in an open session whose teardown has not begun. -/
theorem State.Inv.open_of_timerEn {s : State} (inv : s.Inv) (on : s.timerEn = true) :
    s.st = .streaming ∧ s.closing = false := by
  constructor
  · by_contra notStreaming
    obtain ⟨_, off, _, _⟩ := inv.quiet_of_notStreaming notStreaming
    simp [off] at on
  · by_contra closing
    simp [inv.timer_off (.inr (by simpa using closing))] at on

/-- R179: a released session with no write outstanding is quiet. -/
theorem State.inv_release {s : State} (free : s.wrPending = false) : s.release.Inv where
  connecting_quiet := by simp
  disconnected_quiet _ := ⟨rfl, rfl, free, rfl⟩
  closing_waits := by simp
  streaming_live := by simp

/-- R178: both ways of TEARDOWN lead to the invariants. -/
theorem State.inv_teardown {s : State} (streaming : s.st = .streaming) : s.teardown.Inv := by
  obtain ⟨outstanding, waits⟩ | ⟨free, releases⟩ := s.teardown_cases
  · rw [waits]
    exact State.inv_of_streaming streaming (fun _ => ⟨outstanding, rfl⟩) (by simp)
  · rw [releases]
    exact State.inv_release free

/-- Every event keeps the register invariants. -/
theorem Effect.inv {i : Instr} {s t : State} (h : Effect s i t) (inv : s.Inv) : t.Inv := by
  cases h with
  | violation | nop | openFailed | emitted | dropped | sendClosed | notProbed | closeIgnored =>
    exact inv.of_controls_eq rfl
  | opened _ connecting =>
    obtain ⟨_, _, _, notClosing⟩ := inv.connecting_quiet connecting
    exact State.inv_of_streaming rfl (by simp [notClosing]) fun _ => ⟨rfl, rfl⟩
  | issued _ _ streaming =>
    exact State.inv_of_streaming streaming (fun closing => ⟨rfl, inv.timer_off (.inr closing)⟩)
      (inv.streaming_live streaming)
  | written _ outstanding notClosing =>
    have streaming := inv.streaming_of_wrPending outstanding
    exact State.inv_of_streaming streaming (by simp [notClosing]) (inv.streaming_live streaming)
  | writtenReleased => exact State.inv_release rfl
  | probed on =>
    obtain ⟨streaming, notClosing⟩ := inv.open_of_timerEn on
    exact State.inv_of_streaming streaming (by simp [notClosing]) fun _ => ⟨on, rfl⟩
  | probeLost on => exact State.inv_teardown (inv.open_of_timerEn on).1
  | closed streaming => exact State.inv_teardown streaming

/-- The invariants do not speak of the ports. -/
theorem State.Inv.latch {s : State} (inv : s.Inv) : s.latch.Inv :=
  inv.of_controls_eq (by simp [State.controls])

/-- R251: the reset values are those of a CONNECTING state with everything off. -/
theorem State.inv_resetRegisters (s : State) : s.resetRegisters.Inv where
  connecting_quiet _ := ⟨rfl, rfl, rfl, rfl⟩
  disconnected_quiet := by simp
  closing_waits := by simp
  streaming_live := by simp

/-- Settles O45: a reset step by `State.inv_resetRegisters`, every event by `Effect.inv`. -/
theorem stepKeepsTheRegisterInvariants : Obligations.StepKeepsTheRegisterInvariants := by
  intro s t inv run
  obtain ⟨_, rfl⟩ | ⟨_, _, _, effect⟩ := step_cases run
  · exact s.latch.inv_resetRegisters
  · exact effect.inv inv.latch

end Sys2Proof.Machine

/-! # Proofs: the frame buffer's form (20_memory.md R52, 41_packer.md R140, R141) -/

namespace Sys2Proof.Machine

theorem packTx_wf (c : CommandIntent) : (packTx c).wf Config.frameMax = true :=
  memWriteBytes_wf (memWriteBytes_wf rfl _ _ _) _ _ _

/-- R52: PACK leaves 0 in every byte after the frame. -/
theorem read_packTx_of_packLen_le (c : CommandIntent) {a : Nat} (past : packLen c ≤ a) : (packTx c).read a = 0 := by
  rw [read_packTx, List.getD_eq_default _ _ (by rwa [length_serialise_wireCommand])]

/-- R141: byte 3 tells the frame's length. -/
theorem packLen_eq_told (c : CommandIntent) : packLen c = ((packTx c).read 3).toNat + 4 := by
  have told : (packTx c).read 3 = (wireCommand c).length := read_packTx c 3
  rw [told, toNat_length_wireCommand]
  rfl

/-- R142 to R147: a payload has one word, two words or 16 bytes. -/
theorem packLen_cases (c : CommandIntent) : packLen c = 8 ∨ packLen c = 12 ∨ packLen c = 20 := by
  cases c with
  | headsetPower | vrMode | genericOnOff | boxPowerOff => exact .inl rfl
  | enableTracking => exact .inr (.inl rfl)
  | cinematicConfig => exact .inr (.inr rfl)

/-- Settles O36: the header bytes of the serialised command, its length and what stands past it. -/
theorem packedBufferHasHeaderAndZeroTail : Obligations.PackedBufferHasHeaderAndZeroTail := fun c =>
  ⟨packLen_eq_told c, read_packTx c 1, read_packTx c 2, packLen_cases c, fun _ => read_packTx_of_packLen_le c⟩

theorem State.frameInv_of_tx_packed {s : State} {c : CommandIntent} (packed : s.tx = packTx c) : s.FrameInv where
  wf := packed ▸ packTx_wf c
  tail_zero a past := by
    rw [packed] at past ⊢
    exact read_packTx_of_packLen_le c (packLen_eq_told c ▸ past)

theorem State.FrameInv.of_tx_eq {s t : State} (inv : s.FrameInv) (same : t.tx = s.tx) : t.FrameInv where
  wf := same ▸ inv.wf
  tail_zero := same ▸ inv.tail_zero

/-- R52: the frame buffer is written by PACK in an accepted SEND and by nothing else. -/
theorem Effect.tx_eq_or_packed {i : Instr} {s t : State} (h : Effect s i t) :
    t.tx = s.tx ∨ ∃ c, i = sendEvent c ∧ t.tx = packTx c := by
  cases h with
  | issued c isSend => exact .inr ⟨c, isSend, rfl⟩
  | probeLost => exact .inl (State.teardown_tx _)
  | closed => exact .inl (State.teardown_tx _)
  | violation | nop | opened | openFailed | emitted | dropped | sendClosed | written | writtenReleased | notProbed
  | probed | closeIgnored => exact .inl rfl

/-- Settles O46: the buffer is as it was, or it is PACK's. -/
theorem stepKeepsTheFrameBufferForm : Obligations.StepKeepsTheFrameBufferForm := by
  intro s t inv run
  have latched : s.latch.FrameInv := inv.of_tx_eq s.latch_tx
  obtain ⟨_, rfl⟩ | ⟨_, _, _, effect⟩ := step_cases run
  · exact latched.of_tx_eq rfl
  · obtain same | ⟨_, _, packed⟩ := effect.tx_eq_or_packed
    · exact latched.of_tx_eq same
    · exact State.frameInv_of_tx_packed packed

/-- Settles O47: the reset values, over 20 zero bytes. -/
theorem resetStateHasTheInvariants : Obligations.ResetStateHasTheInvariants :=
  ⟨State.inv_resetRegisters State.reset, rfl, fun _ _ => rfl⟩

end Sys2Proof.Machine

/-! # Proofs: every event answers, and which ports it reads (10_state.md R35, 42_session_fsm.md R170) -/

namespace Sys2Proof.Machine

/-- R170: every event has a next state. -/
theorem exec_total (i : Instr) (s : State) : ∃ t, exec i s = .next t := by
  obtain ⟨t, run, _⟩ := exec_withEvWord i s s.ports.evWord
  exact ⟨t, run⟩

theorem step_total (s : State) : ∃ t, step s = .next t := by
  unfold step
  split
  · exact ⟨_, rfl⟩
  · exact exec_total _ _

/-- Settles O10: a reset step answers the reset registers, every other one by `exec_total`. -/
theorem everyStepAnswersANextState : Obligations.EveryStepAnswersANextState := step_total

/-- An event samples no port, presents no event and sets no parameter. -/
theorem Effect.keeps_inputs {i : Instr} {s t : State} (h : Effect s i t) :
    t.ports = s.ports ∧ t.pending = s.pending ∧ t.params = s.params := by
  cases h with
  | probeLost | closed => simp
  | violation | nop | opened | openFailed | emitted | dropped | sendClosed | issued | written | writtenReleased
  | notProbed | probed | closeIgnored => exact ⟨rfl, rfl, rfl⟩

/-- Settles O11: none of the updates of `Effect` writes these fields. -/
theorem eventsKeepInputsAndParameters : Obligations.EventsKeepInputsAndParameters := fun _ _ _ run =>
  (exec_effect run).keeps_inputs

/-- The state with other sampled ports. -/
def State.withPorts (s : State) (p : PortSample) : State :=
  { s with ports := p }

@[simp] theorem State.withPorts_st (s : State) (p : PortSample) : (s.withPorts p).st = s.st := rfl
@[simp] theorem State.withPorts_wrPending (s : State) (p : PortSample) :
    (s.withPorts p).wrPending = s.wrPending := rfl

theorem State.teardown_withPorts (s : State) (p : PortSample) :
    (s.withPorts p).teardown = s.teardown.withPorts p := by
  cases outstanding : s.wrPending
  · rw [s.teardown_of_free outstanding, (s.withPorts p).teardown_of_free outstanding]; rfl
  · rw [s.teardown_of_outstanding outstanding, (s.withPorts p).teardown_of_outstanding outstanding]; rfl

theorem State.send_withPorts (s : State) (p : PortSample) (c : CommandIntent) :
    (s.withPorts p).send c = (s.send c).withPorts p := by
  by_cases streaming : s.st = .streaming
  · cases outstanding : s.wrPending <;> simp [State.send, streaming, outstanding] <;> rfl
  · rw [State.send_of_notStreaming c streaming, State.send_of_notStreaming c (by simpa using streaming)]; rfl

/-- The ports that an event reads, the report bytes in PACKET and the time in OPEN and TICK, are the same. -/
structure SameReadPorts (i : Instr) (p q : PortSample) : Prop where
  report : ∀ full, i = .packet full → p.rxData = q.rxData
  openTime : ∀ u r, i = .openSession u r → p.now = q.now
  tickTime : ∀ a, i = .tick a → p.now = q.now

/-- R35: ports that agree on what the event reads differ in nothing but themselves. -/
theorem exec_withPorts {i : Instr} {s : State} {p : PortSample} (same : SameReadPorts i p s.ports) :
    ∃ t, exec i s = .next t ∧ exec i (s.withPorts p) = .next (t.withPorts p) := by
  obtain ⟨report, openTime, tickTime⟩ := same
  have send (c : CommandIntent) : ∃ t, exec (sendEvent c) s = .next t ∧
      exec (sendEvent c) (s.withPorts p) = .next (t.withPorts p) :=
    ⟨s.send c, exec_sendEvent c s, by rw [exec_sendEvent, State.send_withPorts]⟩
  obtain ⟨rst, evWord, rxData, now⟩ := p
  cases i with
  | nop | openReserved | sendReservedKind | reservedEvent => exact ⟨_, rfl, rfl⟩
  | openSession u r =>
    obtain rfl : now = s.ports.now := openTime u r rfl
    by_cases connecting : s.st = .connecting
    · cases r <;> exact ⟨_, if_pos connecting, if_pos connecting⟩
    · exact ⟨_, if_neg connecting, if_neg connecting⟩
  | packet full =>
    obtain rfl : rxData = s.ports.rxData := report full rfl
    by_cases streaming : s.st = .streaming
    · exact ⟨_, if_pos streaming, if_pos streaming⟩
    · exact ⟨_, if_neg streaming, if_neg streaming⟩
  | sendEnableTracking => exact send .enableTracking
  | sendHeadsetPower on => exact send (.headsetPower on)
  | sendVRMode enter => exact send (.vrMode enter)
  | sendGenericOnOff id on => exact send (.genericOnOff id on)
  | sendBoxPowerOff => exact send .boxPowerOff
  | sendCinematicConfig dist size bright mic flag => exact send (.cinematicConfig dist size bright mic flag)
  | writeDone ok =>
    by_cases outstanding : s.wrPending = true
    · cases closing : s.closing
      · exact ⟨_, exec_writeDone_of_notClosing ok outstanding closing,
          exec_writeDone_of_notClosing ok outstanding closing⟩
      · exact ⟨_, exec_writeDone_of_closing ok outstanding closing, exec_writeDone_of_closing ok outstanding closing⟩
    · exact ⟨_, if_neg outstanding, if_neg outstanding⟩
  | tick a =>
    obtain rfl : now = s.ports.now := tickTime a rfl
    cases on : s.timerEn
    · exact ⟨_, exec_tick_of_off a on, exec_tick_of_off a on⟩
    · by_cases due : s.due
      · have fires := exec_tick_of_due (s := s.withPorts ⟨rst, evWord, rxData, s.ports.now⟩) a on due
        cases a
        · refine ⟨_, exec_tick_of_due false on due, fires.trans ?_⟩
          exact congrArg Host.Outcome.next ((s.probe false).teardown_withPorts _)
        · exact ⟨_, exec_tick_of_due true on due, fires⟩
      · exact ⟨_, exec_tick_of_notDue a on due, exec_tick_of_notDue a on due⟩
  | close =>
    by_cases held : s.st = .streaming ∧ s.closing = false
    · refine ⟨_, if_pos held, (if_pos held).trans ?_⟩
      exact congrArg Host.Outcome.next (s.clearOut.teardown_withPorts _)
    · exact ⟨_, if_neg held, if_neg held⟩

/-- Settles O12: by `exec_withPorts` the two next states differ in their ports only. -/
theorem portsAreReadOnlyByTheirEvents : Obligations.PortsAreReadOnlyByTheirEvents := by
  intro i s p report openTime tickTime
  obtain ⟨t, run, run'⟩ := exec_withPorts ⟨report, openTime, tickTime⟩
  exact ⟨t, t.withPorts p, run, run', rfl, rfl, rfl⟩

end Sys2Proof.Machine

/-! # Proofs: a closed session (42_session_fsm.md section 4, R183, R184) -/

namespace Sys2Proof.Machine

/-- Everything an event can do in DISCONNECTED: nothing, a violation, or the SessionClosed answer. -/
theorem Effect.of_disconnected {i : Instr} {s t : State} (h : Effect s i t) (inv : s.Inv)
    (disconnected : s.st = .disconnected) :
    t = s.clearOut ∨ t = s.violate ∨ t = s.reportSend false .sessionClosed := by
  obtain ⟨_, off, free, _⟩ := inv.disconnected_quiet disconnected
  cases h with
  | nop | dropped | notProbed | closeIgnored => exact .inl rfl
  | violation => exact .inr (.inl rfl)
  | sendClosed => exact .inr (.inr rfl)
  | opened _ connecting | openFailed _ _ _ connecting => simp [disconnected] at connecting
  | emitted _ streaming | issued _ _ streaming | closed streaming => simp [disconnected] at streaming
  | written _ outstanding | writtenReleased _ outstanding => simp [free] at outstanding
  | probed on | probeLost on => simp [off] at on

/-- R184: in DISCONNECTED every register but `viol` is final, and a set `viol` stays set. -/
theorem Effect.regs_of_disconnected {i : Instr} {s t : State} (h : Effect s i t) (inv : s.Inv)
    (disconnected : s.st = .disconnected) :
    t.regs = { s.regs with viol := t.viol } ∧ (s.viol = true → t.viol = true) := by
  obtain rfl | rfl | rfl := h.of_disconnected inv disconnected
  · exact ⟨rfl, id⟩
  · exact ⟨rfl, fun _ => rfl⟩
  · exact ⟨rfl, id⟩

/-- Settles O48: `viol` by the violation rule, the other registers by `Effect.regs_of_disconnected`. -/
theorem disconnectedIsTerminal : Obligations.DisconnectedIsTerminal := by
  intro i s t inv disconnected run
  obtain ⟨viol, _⟩ := violationBitRule i s t run
  obtain ⟨regs, _⟩ := (exec_effect run).regs_of_disconnected inv disconnected
  rw [regs, viol]

/-- R184: the outputs an event can drive in DISCONNECTED. -/
theorem Effect.out_of_disconnected {i : Instr} {s t : State} (h : Effect s i t) (inv : s.Inv)
    (disconnected : s.st = .disconnected) :
    t.out = Output.empty ∨ t.out = { Output.empty with sendDone := some { ok := false, err := .sessionClosed } } := by
  obtain rfl | rfl | rfl := h.of_disconnected inv disconnected
  · exact .inl rfl
  · exact .inl rfl
  · exact .inr rfl

end Sys2Proof.Machine

/-! # Proofs: the release, the write and the probe of an open session (70_reset_and_hazards.md section 3) -/

namespace Sys2Proof.Machine

/-- R179: the close and the removal come together, in the steps that leave STREAMING, and with no write left. -/
def ReleasesOnLeaving (s t : State) : Prop :=
  t.out.trClose = t.out.removedEvt ∧ (t.out.removedEvt = true ↔ s.st = .streaming ∧ t.st ≠ .streaming) ∧
    (t.out.removedEvt = true → t.wrPending = false)

/-- An update that drives neither output leaves no session. -/
theorem releasesOnLeaving_of_not_removed {s t : State} (notClosed : t.out.trClose = false)
    (notRemoved : t.out.removedEvt = false) (stays : s.st = .streaming → t.st = .streaming) :
    ReleasesOnLeaving s t := by
  simpa [ReleasesOnLeaving, notClosed, notRemoved] using stays

/-- TEARDOWN of an open session, after updates that keep it open and drive neither output. -/
theorem releasesOnLeaving_teardown {s u : State} (streaming : s.st = .streaming) (held : u.st = .streaming)
    (notClosed : u.out.trClose = false) (notRemoved : u.out.removedEvt = false) :
    ReleasesOnLeaving s u.teardown := by
  cases outstanding : u.wrPending <;>
    simp [ReleasesOnLeaving, State.teardown_st, streaming, held, notClosed, notRemoved, outstanding]

theorem Effect.releasesOnLeaving {i : Instr} {s t : State} (h : Effect s i t) (inv : s.Inv) :
    ReleasesOnLeaving s t := by
  cases h with
  | opened => exact releasesOnLeaving_of_not_removed rfl rfl fun _ => rfl
  | violation | nop | openFailed | emitted | dropped | sendClosed | issued | written | notProbed | probed
  | closeIgnored => exact releasesOnLeaving_of_not_removed rfl rfl id
  | writtenReleased _ outstanding =>
    have streaming := inv.streaming_of_wrPending outstanding
    exact ⟨rfl, by simp [streaming], fun _ => rfl⟩
  | probeLost on =>
    have streaming := (inv.open_of_timerEn on).1
    exact releasesOnLeaving_teardown streaming streaming rfl rfl
  | closed streaming => exact releasesOnLeaving_teardown streaming streaming rfl rfl

/-- Settles O51: only RELEASE drives the two outputs, and only RELEASE leaves STREAMING. -/
theorem removalMarksLeavingStreaming : Obligations.RemovalMarksLeavingStreaming := fun _ _ _ inv run =>
  (exec_effect run).releasesOnLeaving inv

/-- R260: a write is handed over by an accepted SEND only. -/
theorem Effect.accepted_of_trWrite {i : Instr} {s t : State} (h : Effect s i t) (handedOver : t.out.trWrite ≠ none) :
    s.st = .streaming ∧ s.wrPending = false ∧ t.wrPending = true := by
  cases h with
  | issued _ _ streaming free => exact ⟨streaming, free, rfl⟩
  | probeLost | closed => exact absurd (State.teardown_trWrite _) handedOver
  | violation | nop | opened | openFailed | emitted | dropped | sendClosed | written | writtenReleased | notProbed
  | probed | closeIgnored => exact absurd rfl handedOver

/-- R260: an outstanding write ends with its WRITE_DONE only. -/
theorem Effect.wrPending_stays {i : Instr} {s t : State} (h : Effect s i t) (outstanding : s.wrPending = true)
    (notDone : ∀ ok, i ≠ .writeDone ok) : t.wrPending = true := by
  cases h with
  | written ok | writtenReleased ok => exact absurd rfl (notDone ok)
  | probeLost | closed => simpa using outstanding
  | issued => rfl
  | violation | nop | opened | openFailed | emitted | dropped | sendClosed | notProbed | probed | closeIgnored =>
    exact outstanding

/-- Settles O52: the two halves of the single-writer rule. -/
theorem atMostOneWriteIsOutstanding : Obligations.AtMostOneWriteIsOutstanding := fun _ _ _ run =>
  ⟨(exec_effect run).accepted_of_trWrite, (exec_effect run).wrPending_stays⟩

/-- R176: a probe fires with the timer on only. -/
theorem Effect.timerEn_of_trAliveQuery {i : Instr} {s t : State} (h : Effect s i t)
    (probes : t.out.trAliveQuery = true) : s.timerEn = true := by
  cases h with
  | probed on | probeLost on => exact on
  | closed => simp [Output.empty] at probes
  | violation | nop | opened | openFailed | emitted | dropped | sendClosed | issued | written | writtenReleased
  | notProbed | closeIgnored => cases probes

/-- Settles O53: a running timer means an open session, and the invariants hold after the event. -/
theorem noProbeAfterTeardownBegins : Obligations.NoProbeAfterTeardownBegins := by
  intro i s t inv run
  have effect := exec_effect run
  refine ⟨fun probes => ?_, (effect.inv inv).timer_off⟩
  have on := effect.timerEn_of_trAliveQuery probes
  obtain ⟨streaming, notClosing⟩ := inv.open_of_timerEn on
  exact ⟨by simp [State.holdsHandle, streaming], on, notClosing⟩

end Sys2Proof.Machine

/-! # Proofs: runs without a reset (42_session_fsm.md R183, R184) -/

namespace Sys2Proof.Machine

/-- The sample taken is one of those that reset nothing, and so are the others; an idle cycle resets nothing. -/
theorem State.latch_noReset {s : State} (noReset : s.noReset = true) :
    s.latch.ports.rst = false ∧ s.latch.noReset = true := by
  cases pending : s.pending with
  | nil =>
    rw [s.latch_nil pending]
    exact ⟨rfl, noReset⟩
  | cons p ps =>
    rw [s.latch_cons pending]
    simpa [State.noReset, pending] using noReset

/-- A step without a reset is an event, and leaves a queue without a reset. -/
theorem effect_of_noReset {s t : State} (noReset : s.noReset = true) (run : step s = .next t) :
    ∃ i, Effect s.latch i t ∧ t.noReset = true := by
  obtain ⟨notReset, restNoReset⟩ := State.latch_noReset noReset
  obtain ⟨reset, _⟩ | ⟨_, i, _, effect⟩ := step_cases run
  · simp [notReset] at reset
  · obtain ⟨_, pending, _⟩ := effect.keeps_inputs
    exact ⟨i, effect, by rw [State.noReset, pending]; exact restNoReset⟩

/-- One step of a closed session's run: the registers but `viol` and the outputs of R184, and a session as closed. -/
theorem step_of_disconnected {s t : State} (inv : s.Inv) (disconnected : s.st = .disconnected)
    (noReset : s.noReset = true) (run : step s = .next t) :
    t.regs = { s.regs with viol := t.viol } ∧ (s.viol = true → t.viol = true) ∧
      (t.out = Output.empty ∨ t.out = { Output.empty with sendDone := some { ok := false, err := .sessionClosed } }) ∧
      t.noReset = true := by
  obtain ⟨_, effect, restNoReset⟩ := effect_of_noReset noReset run
  have latched : s.latch.st = .disconnected := s.latch_st.trans disconnected
  obtain ⟨regs, viol⟩ := effect.regs_of_disconnected inv.latch latched
  refine ⟨?_, ?_, effect.out_of_disconnected inv.latch latched, restNoReset⟩
  · simpa [State.regs] using regs
  · simpa using viol

theorem disconnected_of_step {s t : State} (inv : s.Inv) (disconnected : s.st = .disconnected)
    (noReset : s.noReset = true) (run : step s = .next t) : t.st = .disconnected := by
  obtain ⟨regs, _⟩ := step_of_disconnected inv disconnected noReset run
  exact (congrArg Regs.st regs).trans disconnected

/-- Settles O50: by induction on the run, each step of which is `step_of_disconnected`. -/
theorem nothingFollowsDisconnected : Obligations.NothingFollowsDisconnected := by
  intro n s t inv disconnected noReset run
  induction n generalizing s with
  | zero =>
    obtain ⟨u, first⟩ := step_total s
    rw [run_succ first] at run
    obtain rfl : u = t := Host.Outcome.next.inj run
    obtain ⟨regs, viol, out, _⟩ := step_of_disconnected inv disconnected noReset first
    exact ⟨regs, viol, out⟩
  | succ n ih =>
    obtain ⟨u, first⟩ := step_total s
    rw [run_succ first] at run
    obtain ⟨regs, viol, _, restNoReset⟩ := step_of_disconnected inv disconnected noReset first
    obtain ⟨restRegs, restViol, out⟩ := ih u (stepKeepsTheRegisterInvariants s u inv first)
      (disconnected_of_step inv disconnected noReset first) restNoReset run
    exact ⟨by rw [restRegs, regs], restViol ∘ viol, out⟩

/-- The removals of a run are those of its first step and those of the rest. -/
theorem removals_succ {s t : State} (run : step s = .next t) (n : Nat) :
    removals (n + 1) s = (if t.out.removedEvt then 1 else 0) + removals n t := by
  simp only [removals, run]

/-- R183: a closed session is not removed again. -/
theorem removals_of_disconnected (n : Nat) {s : State} (inv : s.Inv) (disconnected : s.st = .disconnected)
    (noReset : s.noReset = true) : removals n s = 0 := by
  induction n generalizing s with
  | zero => rfl
  | succ n ih =>
    obtain ⟨t, run⟩ := step_total s
    obtain ⟨_, _, out, restNoReset⟩ := step_of_disconnected inv disconnected noReset run
    have notRemoved : t.out.removedEvt = false := by obtain out | out := out <;> rw [out] <;> rfl
    have rest := ih (stepKeepsTheRegisterInvariants s t inv run)
      (disconnected_of_step inv disconnected noReset run) restNoReset
    rw [removals_succ run, rest, notRemoved]
    rfl

/-- R178: TEARDOWN itself notifies the removal only where it ends the session. -/
theorem State.teardown_st_of_removed {s : State} (notBefore : s.out.removedEvt = false)
    (removed : s.teardown.out.removedEvt = true) : s.teardown.st = .disconnected := by
  have free : s.wrPending = false := by simpa [notBefore] using removed
  simp [State.teardown_st, free]

/-- R179: the event that notifies the removal closes the session. -/
theorem Effect.disconnected_of_removed {i : Instr} {s t : State} (h : Effect s i t)
    (removed : t.out.removedEvt = true) : t.st = .disconnected := by
  cases h with
  | writtenReleased => rfl
  | probeLost | closed => exact State.teardown_st_of_removed rfl removed
  | violation | nop | opened | openFailed | emitted | dropped | sendClosed | issued | written | notProbed | probed
  | closeIgnored => cases removed

/-- Settles O49: by induction on the run; after the step that notifies the removal nothing more is removed. -/
theorem removalIsNotifiedAtMostOnce : Obligations.RemovalIsNotifiedAtMostOnce := by
  intro n
  induction n with
  | zero => exact fun _ _ _ => Nat.zero_le 1
  | succ n ih =>
    intro s inv noReset
    obtain ⟨t, run⟩ := step_total s
    obtain ⟨_, effect, restNoReset⟩ := effect_of_noReset noReset run
    have inv' : t.Inv := stepKeepsTheRegisterInvariants s t inv run
    rw [removals_succ run]
    by_cases removed : t.out.removedEvt = true
    · rw [removals_of_disconnected n inv' (effect.disconnected_of_removed removed) restNoReset, if_pos removed]
    · rw [if_neg removed, Nat.zero_add]
      exact ih t inv' restNoReset

end Sys2Proof.Machine

/-! # Proofs: what UNPACK reads of a report (40_unpacker.md section 5, 20_memory.md R58) -/

namespace Sys2Proof.Machine

/-- Reports that agree on the bytes read whole differ in the four flags of byte 8 at most. -/
theorem unpack_full_of_agree {rx rx' : Memory} (agree : ∀ k, readByte k → rx'.read k = rx.read k) :
    unpack true rx' = { unpack true rx with
      worn := (rx'.read 8).getLsbD 0, displayActive := !(rx'.read 8).getLsbD 1
      muted := (rx'.read 8).getLsbD 3, earphonesConnected := (rx'.read 8).getLsbD 4 } := by
  unfold readByte at agree
  simp (disch := omega) only [unpack_full, agree]

/-- Byte 8 is not read whole. -/
theorem ne_eight_of_readByte {k : Nat} (whole : readByte k) : k ≠ 8 := by
  unfold readByte at whole; omega

/-- Settles O24: the other fields by `unpack_full_of_agree`, each flag by its bit of the toggled byte. -/
theorem statusBitTogglesOneField : Obligations.StatusBitTogglesOneField := by
  intro rx rx' i agree toggled
  rw [unpack_full_of_agree fun k whole => agree k (ne_eight_of_readByte whole), toggled]
  refine ⟨?worn, ?displayActive, ?muted, ?earphones, ?unread⟩
  case unread => rintro (rfl | rfl | rfl | rfl) <;> simp [unpack_full]
  all_goals rintro rfl; simp [unpack_full]

/-- A bit of the mask is the same in two bytes that agree under it. -/
theorem getLsbD_eq_of_and_eq {a b mask : Byte} (agree : a &&& mask = b &&& mask) {i : Nat}
    (inMask : mask.getLsbD i = true) : a.getLsbD i = b.getLsbD i := by
  simpa [inMask] using congrArg (·.getLsbD i) agree

/-- Settles O25: a short report reads nothing; a full one reads the four bits of the mask in byte 8. -/
theorem unreadReportBitsReachNoOutput : Obligations.UnreadReportBitsReachNoOutput := by
  intro full rx rx' agree flags
  cases full
  · rfl
  · rw [unpack_full_of_agree agree, getLsbD_eq_of_and_eq flags (i := 0) rfl, getLsbD_eq_of_and_eq flags (i := 1) rfl,
      getLsbD_eq_of_and_eq flags (i := 3) rfl, getLsbD_eq_of_and_eq flags (i := 4) rfl]
    rfl

end Sys2Proof.Machine

/-! # Proofs: the frames of the events (42_session_fsm.md section 2) -/

namespace Sys2Proof.Machine

theorem sameBytes_of_tx_eq {s t : State} (same : t.tx = s.tx) : sameBytes s t := fun a => by rw [same]

/-- R172: everything an OPEN can do. -/
theorem openSession_cases {u : Bool} {r : OpenResult} {s t : State} (run : exec (.openSession u r) s = .next t) :
    t = s.violate ∨ t = s.openOk u ∨ ∃ e, t = s.openFailed u e := by
  cases exec_effect run with
  | violation => exact .inl rfl
  | opened => exact .inr (.inl rfl)
  | openFailed _ _ e => exact .inr (.inr ⟨e, rfl⟩)
  | sendClosed c isSend | issued c isSend => cases c <;> cases isSend

/-- R175: everything a WRITE_DONE can do. -/
theorem writeDone_cases {ok : Bool} {s t : State} (run : exec (.writeDone ok) s = .next t) :
    (s.wrPending = false ∧ t = s.violate) ∨ (s.closing = false ∧ t = s.finishWrite ok) ∨
      (s.closing = true ∧ t = (s.finishWrite ok).release) := by
  cases exec_effect run with
  | violation cause => exact .inl ⟨by simpa [violates] using cause, rfl⟩
  | written _ _ notClosing => exact .inr (.inl ⟨notClosing, rfl⟩)
  | writtenReleased _ _ closing => exact .inr (.inr ⟨closing, rfl⟩)
  | sendClosed c isSend | issued c isSend => cases c <;> cases isSend

/-- R176: everything a TICK can do. -/
theorem tick_cases {a : Bool} {s t : State} (run : exec (.tick a) s = .next t) :
    t = s.clearOut ∨ t = s.probe true ∨ (a = false ∧ t = (s.probe false).teardown) := by
  cases exec_effect run with
  | notProbed => exact .inl rfl
  | probed => exact .inr (.inl rfl)
  | probeLost => exact .inr (.inr ⟨rfl, rfl⟩)
  | violation cause => cases cause
  | sendClosed c isSend | issued c isSend => cases c <;> cases isSend

/-- R177: everything a CLOSE can do. -/
theorem close_cases {s t : State} (run : exec .close s = .next t) : t = s.clearOut ∨ t = s.clearOut.teardown := by
  cases exec_effect run with
  | closeIgnored => exact .inl rfl
  | closed => exact .inr rfl
  | violation cause => cases cause
  | sendClosed c isSend | issued c isSend => cases c <;> cases isSend

/-- R173: everything a PACKET can do. -/
theorem packet_cases {full : Bool} {s t : State} (run : exec (.packet full) s = .next t) :
    t = s.clearOut ∨ ∃ v, t = s.emit v := by
  cases exec_effect run with
  | dropped => exact .inl rfl
  | emitted => exact .inr ⟨_, rfl⟩
  | violation cause => cases cause
  | sendClosed c isSend | issued c isSend => cases c <;> cases isSend

/-- R225: the frame of a violating event. -/
theorem State.violate_frame (s : State) :
    s.violate.st = s.st ∧ s.violate.alive = s.alive ∧ s.violate.lastCheckAt = s.lastCheckAt ∧
      s.violate.timerEn = s.timerEn ∧ s.violate.wrPending = s.wrPending ∧ s.violate.closing = s.closing ∧
      s.violate.snap = s.snap ∧ sameBytes s s.violate :=
  ⟨rfl, rfl, rfl, rfl, rfl, rfl, rfl, sameBytes_of_tx_eq rfl⟩

/-- Settles O17: each event's updates, and what they leave alone. -/
theorem lifecycleEventsFrame : Obligations.LifecycleEventsFrame := by
  refine fun s t u r c => ⟨fun run => ?_, fun run => ?_, fun run => ?_, fun run => ?_, fun run => ?_⟩
  · obtain rfl : s.clearOut = t := Host.Outcome.next.inj run
    exact ⟨rfl, sameBytes_of_tx_eq rfl⟩
  · obtain rfl | rfl | ⟨_, rfl⟩ := openSession_cases run <;> exact ⟨rfl, rfl, rfl, sameBytes_of_tx_eq rfl⟩
  · exact Host.Outcome.next.inj run ▸ s.violate_frame
  · obtain rfl | rfl := close_cases run
    · exact ⟨rfl, rfl, rfl, rfl, sameBytes_of_tx_eq rfl⟩
    · simp [sameBytes]
  · exact Host.Outcome.next.inj run ▸ s.violate_frame

/-- Settles O19: an emitted snapshot is held in `snap`, and nothing else is written. -/
theorem packetFrame : Obligations.PacketFrame := by
  intro full s t run
  obtain rfl | ⟨_, rfl⟩ := packet_cases run <;>
    exact ⟨rfl, rfl, rfl, rfl, rfl, rfl, rfl, sameBytes_of_tx_eq rfl⟩

theorem writeDone_frame {ok : Bool} {s t : State} (run : exec (.writeDone ok) s = .next t) :
    t.lastCheckAt = s.lastCheckAt ∧ t.snap = s.snap ∧ sameBytes s t ∧ (s.wrPending = true → t.viol = s.viol) ∧
      (s.closing = false → t.st = s.st ∧ t.alive = s.alive ∧ t.timerEn = s.timerEn ∧ t.closing = false) := by
  obtain ⟨free, rfl⟩ | ⟨_, rfl⟩ | ⟨closing, rfl⟩ := writeDone_cases run
  · exact ⟨rfl, rfl, sameBytes_of_tx_eq rfl, by simp [free], fun notClosing => ⟨rfl, rfl, rfl, notClosing⟩⟩
  · exact ⟨rfl, rfl, sameBytes_of_tx_eq rfl, fun _ => rfl, fun notClosing => ⟨rfl, rfl, rfl, notClosing⟩⟩
  · exact ⟨rfl, rfl, sameBytes_of_tx_eq rfl, fun _ => rfl, by simp [closing]⟩

theorem tick_frame {a : Bool} {s t : State} (run : exec (.tick a) s = .next t) :
    t.wrPending = s.wrPending ∧ t.viol = s.viol ∧ t.snap = s.snap ∧ sameBytes s t ∧
      (a = true → t.st = s.st ∧ t.timerEn = s.timerEn ∧ t.closing = s.closing) := by
  obtain rfl | rfl | ⟨rfl, rfl⟩ := tick_cases run
  · exact ⟨rfl, rfl, rfl, sameBytes_of_tx_eq rfl, fun _ => ⟨rfl, rfl, rfl⟩⟩
  · exact ⟨rfl, rfl, rfl, sameBytes_of_tx_eq rfl, fun _ => ⟨rfl, rfl, rfl⟩⟩
  · simp [sameBytes]

/-- Settles O39: the frames of the three events. -/
theorem writeDoneAndTickFrame : Obligations.WriteDoneAndTickFrame := fun s _ _ _ =>
  ⟨writeDone_frame, tick_frame, fun run => Host.Outcome.next.inj run ▸ s.violate_frame⟩

end Sys2Proof.Machine

/-! # Proofs: SEND and the buffer it writes (42_session_fsm.md R174, 10_state.md R37) -/

namespace Sys2Proof.Machine

/-- An address no cell has reads 0. -/
theorem Memory.read_eq_zero_of_unlisted {m : Memory} {a : Nat} (unlisted : ∀ c ∈ m, c.1 ≠ a) : m.read a = 0 := by
  induction m with
  | nil => rfl
  | cons c m ih =>
    obtain ⟨other, rest⟩ := List.forall_mem_cons.mp unlisted
    exact (if_neg other.symm).trans (ih rest)

/-- A buffer in canonical form reads 0 past its end. -/
theorem Memory.read_of_size_le {m : Memory} {size a : Nat} (wf : m.wf size = true) (past : size ≤ a) :
    m.read a = 0 := by
  refine Memory.read_eq_zero_of_unlisted fun c mem => ?_
  have within : c.1 < size := ((Memory.wf_iff.mp wf).2 c mem).2
  omega

/-- R174: everything a SEND can do, in the order of its checks. -/
theorem State.send_cases (s : State) (c : CommandIntent) :
    (s.st ≠ .streaming ∧ s.send c = s.reportSend false .sessionClosed) ∨
      (s.st = .streaming ∧ s.wrPending = true ∧ s.send c = s.violate) ∨
      (s.st = .streaming ∧ s.wrPending = false ∧ s.send c = s.issueWrite c) := by
  by_cases streaming : s.st = .streaming
  · cases outstanding : s.wrPending
    · exact .inr (.inr ⟨streaming, rfl, State.send_accepted c streaming outstanding⟩)
    · exact .inr (.inl ⟨streaming, rfl, by simp [State.send, streaming, outstanding]⟩)
  · exact .inl ⟨streaming, State.send_of_notStreaming c streaming⟩

/-- The frame of an accepted SEND. -/
theorem State.issueWrite_frame (s : State) (c : CommandIntent) :
    (s.issueWrite c).viol = s.viol ∧ (∀ a, a < 20 → (s.issueWrite c).tx.read a = (packTx c).read a) ∧
      (s.tx.wf Config.frameMax = true → ∀ a, 20 ≤ a → (s.issueWrite c).tx.read a = s.tx.read a) := by
  refine ⟨rfl, fun _ _ => rfl, fun wf a past => ?_⟩
  rw [State.issueWrite_tx, Memory.read_of_size_le (packTx_wf c) past, Memory.read_of_size_le wf past]

/-- Settles O38: the two answers without a write, then the accepted one by `State.issueWrite_frame`. -/
theorem sendFrame : Obligations.SendFrame := by
  intro s t c run
  obtain rfl : s.send c = t := Host.Outcome.next.inj ((exec_sendEvent c s).symm.trans run)
  obtain ⟨notStreaming, sends⟩ | ⟨_, outstanding, sends⟩ | ⟨streaming, free, sends⟩ := s.send_cases c <;> rw [sends]
  · exact ⟨rfl, rfl, rfl, rfl, rfl, rfl, fun _ => ⟨sameBytes_of_tx_eq rfl, rfl⟩, fun h => absurd h notStreaming⟩
  · exact ⟨rfl, rfl, rfl, rfl, rfl, rfl, fun _ => ⟨sameBytes_of_tx_eq rfl, rfl⟩, by simp [outstanding]⟩
  · exact ⟨rfl, rfl, rfl, rfl, rfl, rfl, by simp [streaming, free], fun _ _ => s.issueWrite_frame c⟩

/-- R37: what `cmd_ready` tells. -/
theorem State.cmdReady_iff {s : State} : s.cmdReady = true ↔ s.st = .streaming ∧ s.wrPending = false := by
  simp [State.cmdReady]

/-- Settles O40: ready, the SEND is accepted; and only an accepted SEND drives `tr_write`. -/
theorem commandReadyMeansAccepted : Obligations.CommandReadyMeansAccepted := by
  intro s c
  rw [State.cmdReady_iff]
  constructor
  · rintro ⟨streaming, free⟩
    exact ⟨s.issueWrite c, by rw [exec_sendEvent, State.send_accepted c streaming free], by simp⟩
  · rintro ⟨t, run, handedOver⟩
    obtain ⟨streaming, free, _⟩ := (exec_effect run).accepted_of_trWrite handedOver
    exact ⟨streaming, free⟩

end Sys2Proof.Machine

/-! # Proofs: one step and runs of two (00_scope.md R13, 30_encoding.md R96, 42_session_fsm.md R182) -/

namespace Sys2Proof.Machine

/-- Settles O7: the branch of `step_of_pending` that does not reset. -/
theorem stepRunsTheDecodedEvent : Obligations.StepRunsTheDecodedEvent := fun _ _ _ pending notReset =>
  (step_of_pending pending).trans (if_neg (by simp [notReset]))

/-- R171 and log entry 2: with nothing pending the step is a NOP on the ports as they were. -/
theorem step_of_idle {s : State} (idle : s.pending = []) :
    step s = exec .nop { s with ports := idleSample s.ports } := by
  rw [step, s.latch_nil idle]
  rfl

/-- Settles O8: the idle step is a NOP, which only clears the output record. -/
theorem stepWithNothingPendingIsIdle : Obligations.StepWithNothingPendingIsIdle := fun _ idle =>
  ⟨_, step_of_idle idle, rfl, rfl, sameBytes_of_tx_eq rfl, idle, rfl⟩

/-- Settles O42: the 32-bit difference is the integer difference reduced into `0 .. 2^32 - 1`. -/
theorem dueTestIsModular : Obligations.DueTestIsModular := by
  intro interval now last
  have modular : ((now - last).toNat : Int) = ((now.toNat : Int) - (last.toNat : Int)) % 2 ^ 32 := by
    have := last.isLt
    rw [BitVec.toNat_sub]
    omega
  rw [probeDue, decide_eq_true_iff, ← modular, Int.ofNat_le]

/-- Settles O55: the records of the two rules, read in the order of R182. -/
theorem outputsComeInOrder : Obligations.OutputsComeInOrder := by
  refine fun s u => ⟨fun connecting => ⟨s.openOk u, if_pos connecting, rfl⟩, fun on due free => ?_⟩
  obtain ⟨_, _, _, lost, _⟩ := tickFollowsItsRule s
  obtain ⟨t, run, _, out⟩ := lost on due free
  exact ⟨t, run, by rw [out]; rfl⟩

theorem run_two {s t u : State} (first : step s = .next t) (second : step t = .next u) :
    Host.Core.run core 2 s = .next u := by
  rw [run_succ first, run_succ second, run_zero]

/-- A step runs the event its sample's word decodes to. -/
theorem step_of_decoded {s : State} {p : PortSample} {ps : List PortSample} {i : Instr}
    (pending : s.pending = p :: ps)
    (notReset : p.rst = false) (decoded : decode p.evWord = i) :
    step s = exec i { s with ports := p, pending := ps } :=
  decoded ▸ stepRunsTheDecodedEvent s p ps pending notReset

/-- Settles O54: CLOSE begins the teardown that waits, its WRITE_DONE is the one that releases. -/
theorem deferredReleaseCompletes : Obligations.DeferredReleaseCompletes := by
  intro s p q ps ok pending notReset notReset' isClose isWriteDone streaming notClosing outstanding
  have first := (step_of_decoded pending notReset isClose).trans (exec_close_of_open streaming notClosing)
  rw [State.teardown_of_outstanding _ (by exact outstanding)] at first
  have run := run_two first <|
    (step_of_decoded rfl notReset' isWriteDone).trans (exec_writeDone_of_closing ok outstanding rfl)
  exact ⟨_, run, rfl, rfl, rfl, rfl, rfl⟩

/-- A command's event is no reserved one. -/
theorem sendEvent_wf (c : CommandIntent) : (sendEvent c).wf = true := by
  cases c <;> rfl

/-- A step that takes an event of a surface operation runs that event: the decoder reads back its word. -/
theorem step_of_eventSamples {s : State} {last : PortSample} {i : Instr} {is : List Instr} (wf : i.wf = true)
    (pending : s.pending = eventSamples last (i :: is)) :
    step s = exec i { s with
      ports := { last with rst := false, evWord := encode i }, pending := eventSamples last is } :=
  step_of_decoded pending rfl (decodeEncodeRoundTrip i wf)

/-- What the caller of a SEND that is not accepted gets at once. -/
theorem State.sendDone_of_notReady {s : State} (notReady : s.cmdReady = false) (c : CommandIntent) :
    (s.send c).out.sendDone = if s.st = .streaming then none else some { ok := false, err := .sessionClosed } := by
  obtain ⟨notStreaming, sends⟩ | ⟨streaming, _, sends⟩ | ⟨streaming, free, _⟩ := s.send_cases c
  · rw [sends, if_neg notStreaming]; rfl
  · rw [sends, if_pos streaming]; rfl
  · simp [State.cmdReady, streaming, free] at notReady

/-- Settles O41: an accepted SEND and its WRITE_DONE, or the one step of a SEND that is not accepted. -/
theorem sendCommandReturnsItsResult : Obligations.SendCommandReturnsItsResult := by
  intro s c ok pending
  constructor
  · intro ready notClosing
    obtain ⟨streaming, free⟩ := State.cmdReady_iff.mp ready
    rw [SurfaceOp.events, if_pos ready] at pending
    have first := step_of_eventSamples (sendEvent_wf c) pending
    rw [exec_sendEvent, State.send_accepted c (by exact streaming) (by exact free)] at first
    have run := run_two first <|
      (step_of_eventSamples (is := []) rfl rfl).trans (exec_writeDone_of_notClosing ok rfl notClosing)
    exact ⟨_, run, rfl, by simp [State.finishWrite, State.regs, free], rfl⟩
  · intro notReady
    rw [SurfaceOp.events, if_neg (by simp [notReady])] at pending
    have first := (step_of_eventSamples (sendEvent_wf c) pending).trans (exec_sendEvent c _)
    obtain ⟨_, queue, _⟩ := (exec_effect (exec_sendEvent c _)).keeps_inputs
    exact ⟨_, (run_succ first 0).trans (run_zero _), queue, State.sendDone_of_notReady (by exact notReady) c⟩

end Sys2Proof.Machine
